-- ==== Sys2Proof/Word.lean ====
section
/-! DEFINITION. The widths of the block's values (spec/00_scope.md section 6: `u8`, `u32`, `u64`). All are unsigned. -/
namespace Sys2Proof

/-- `u8`: one bank entry as it travels on the MMIO port. -/
abbrev Byte := BitVec 8

/-- `u32`: an address, a cause word, the vector base, a sideband argument or result. -/
abbrev Word := BitVec 32

/-- `u64`: the tick counter, the compare register, `wdata` and `rdata`. -/
abbrev DWord := BitVec 64

/-- An IRQ number as the bank-index and event-index fields carry it: 10 bits, since `N_IRQ` is at most 1024 (R7, R72, R74). -/
abbrev IrqNum := BitVec 10

end Sys2Proof
end

