-- ==== Sys2Proof/Config.lean ====
section
/-! DEFINITION. What is fixed for a run: the document's constants (R5, R76), the open parameters (R6) and the free values. -/
namespace Sys2Proof

/-- One entry of the service stack `SVC` (R20). `PREEMPTS` is a relation on these, so they stand with the parameters. -/
inductive SvcEntry where
  /-- `Irq(i)`: interrupt `i` was taken and has not returned. -/
  | irq (i : IrqNum)
  /-- `Exc`: a synchronous exception was reported and has not returned. -/
  | exc
deriving DecidableEq, Repr

namespace Config

/-! ## The document's constants (R5) -/

/-- `TIMER_BASE`. -/
def timerBase : Nat := 0x02000000
/-- `MTIMECMP_OFF`. -/
def mtimecmpOff : Nat := 0x4000
/-- `MTIME_OFF`. -/
def mtimeOff : Nat := 0xBFF8
/-- `CLIC_BASE`. -/
def clicBase : Nat := 0x02800000
/-- `IP_OFF`. -/
def ipOff : Nat := 0x000
/-- `IE_OFF`. -/
def ieOff : Nat := 0x400

/-- The byte address of `MTIMECMP`: `0x02004000`. -/
def mtimecmpAddr : Nat := timerBase + mtimecmpOff
/-- The byte address of `MTIME`: `0x0200BFF8`. -/
def mtimeAddr : Nat := timerBase + mtimeOff
/-- The byte address of `IP[0]`: `0x02800000`. -/
def ipBase : Nat := clicBase + ipOff
/-- The byte address of `IE[0]`: `0x02800400`. -/
def ieBase : Nat := clicBase + ieOff

/-- The last byte of the timer window (R41). -/
def timerWindowEnd : Nat := 0x0200BFFF
/-- The last byte of the controller window (R41). -/
def clicWindowEnd : Nat := 0x028007FF

/-- `IRQ_MSOFT`. -/
def irqMachineSoft : Word := 3
/-- `IRQ_MTIMER`: the line the comparator drives (R22). -/
def irqMachineTimer : Word := 7
/-- `IRQ_MEXT`. -/
def irqMachineExternal : Word := 11
/-- `IRQ_NUM_BASE`: the first peripheral IRQ number. -/
def irqNumBase : Word := 16
/-- The ten peripheral indices of R76, each added to `IRQ_NUM_BASE` (R79). -/
def irqDma : Word := irqNumBase + 15
def irqSpi : Word := irqNumBase + 27
def irqUart0 : Word := irqNumBase + 29
def irqUart1 : Word := irqNumBase + 30
def irqI2c : Word := irqNumBase + 32
def irqPwm : Word := irqNumBase + 34
def irqTimerCh0 : Word := irqNumBase + 36
def irqTimerCh1 : Word := irqNumBase + 37
def irqWatchdog : Word := irqNumBase + 38
def irqGpio : Word := irqNumBase + 44

/-- The comparator's line number as a bank index (R22). -/
def timerLineNum : IrqNum := 7

/-! ## The open parameters (R6)

The state carries them as `State.cfg`, so that every statement over all states is a statement for all their values. -/

/-- The parameters of one block, fixed for a whole run. -/
structure Params where
  /-- `N_IRQ - 61`. The type is R7's bound: `61 <= N_IRQ <= 1024`. -/
  nIrqExtra : Fin 964
  /-- `NESTING` (R231). -/
  nesting : Bool
  /-- `PREEMPTS` as the finite list of its pairs; read only through `Params.preempts`. -/
  preemptPairs : List (SvcEntry × SvcEntry)
  /-- `F_TICK` in hertz, absent when no real-time-clock source is active (R24). -/
  fTick : Option Nat
deriving DecidableEq, Repr

/-- `N_IRQ`, the length of each bank. -/
def Params.nIrq (p : Params) : Nat := p.nIrqExtra.val + 61

/-- The listed pairs form an irreflexive and transitive relation (R6, R231). -/
def Params.preemptsLegal (p : Params) : Bool :=
  p.preemptPairs.all (fun x => x.1 != x.2) &&
  p.preemptPairs.all (fun x => p.preemptPairs.all (fun y =>
    x.2 != y.1 || p.preemptPairs.contains (x.1, y.2)))

/-- `PREEMPTS(a, b)`. A list of pairs that is not irreflexive and transitive denotes the empty relation, so that every
value of the parameter is one R231 admits (log 10). -/
def Params.preempts (p : Params) (a b : SvcEntry) : Bool :=
  p.preemptsLegal && p.preemptPairs.contains (a, b)

/-- What the spec leaves open about the block that `State.reset` describes (log 9): constants with no value in Lean. -/
opaque nIrqExtraOpen : Fin 964
opaque nestingOpen : Bool
opaque preemptPairsOpen : List (SvcEntry × SvcEntry)
opaque fTickOpen : Option Nat

/-- The parameters of the block that `State.reset` describes. -/
def platform : Params where
  nIrqExtra := nIrqExtraOpen
  nesting := nestingOpen
  preemptPairs := preemptPairsOpen
  fTick := fTickOpen

/-! ## Free values

Each is drawn at a counter of State that the draw advances: nothing constrains what is drawn. -/

/-- `rdata` where the spec leaves it unspecified: a transaction that ends with `err = 1` (R49), and a write (log 5). -/
opaque freeRdata : Nat → DWord

/-- The `irq` output of `TO_IRQ Unknown`, unspecified when `valid = 0` (R161; log 6). -/
opaque freeIrq : Nat → Word

end Config
end Sys2Proof
end

