-- ==== Sys2Proof/Syntax.lean ====
section
/-! DEFINITION. The operations of the block, the requests that carry them, and the names their operands and results use
(spec/30_encoding.md). `Instr` has one constructor for each row of spec/opcode_table.json. -/
namespace Sys2Proof

/-- The document's `InterruptSource`: 13 known sources and the sentinel (R77). Ids 13 and 14 name no source. -/
inductive Source where
  | machineSoft | machineTimer | machineExternal | gpio | timerCh0 | timerCh1 | watchdog | dma | spi | uart0 | uart1 | i2c
  | pwm
  /-- The sentinel `Unknown`: it has no IRQ number. -/
  | unknown
deriving DecidableEq, Repr

/-- The 15 classes of a cause word (R76), in the table's order. -/
inductive CauseClass where
  | exception | machineSoft | machineTimer | machineExternal | dma | spi | uart0 | uart1 | i2c | pwm | timerCh0 | timerCh1
  | watchdog | gpio | unknownIrq
deriving DecidableEq, Repr

/-- The `path` output of `DECODE` (R163). -/
inductive Path where
  /-- `EXCEPTION_PATH` = 0. -/
  | exceptionPath
  /-- `HANDLER` = 1. -/
  | handler
deriving DecidableEq, Repr

/-- The 14 handlers a trap can be dispatched to (R165). -/
inductive Handler where
  /-- The handler of one known source. -/
  | ofSource (s : Source)
  /-- The generic `ExceptionHandler`. -/
  | exceptionHandler
deriving DecidableEq, Repr

/-- The operations, one constructor for each row of the opcode table. -/
inductive Instr where
  -- Format M: transactions on the MMIO port (R72)
  | ipRead (i : IrqNum)
  | ipWrite (i : IrqNum) (v : Byte)
  | ieRead (i : IrqNum)
  | ieWrite (i : IrqNum) (v : Byte)
  | mtimeRead
  | mtimecmpRead
  | mtimecmpWrite (v : DWord)
  | mtimeWrite (v : DWord)
  -- Format S: commands on the sideband port (R73)
  | causeRead
  | tvecRead
  | tvecWrite (w : Word)
  | gieRead
  | gieSet
  | gieClear
  | excReport (code : BitVec 31)
  | trapReturn
  -- Format E: internal and environment events (R74)
  | tick
  | irqLatch (i : IrqNum)
  | irqTake (i : IrqNum)
  | lineHigh (i : IrqNum)
  | lineLow (i : IrqNum)
  -- Format F: decoder functions (R75)
  | fromIrq (n : Word)
  | toIrq (src : Source)
  | decodeCause (w : Word)
  -- Format C: a cause word, as the decoder classifies it (R76)
  | causeException (code : BitVec 31)
  | causeMachineSoft
  | causeMachineTimer
  | causeMachineExternal
  | causeDma
  | causeSpi
  | causeUart0
  | causeUart1
  | causeI2c
  | causePwm
  | causeTimerCh0
  | causeTimerCh1
  | causeWatchdog
  | causeGpio
  | causeUnknownIrq (code : BitVec 31)
  -- The document's software operations (R85)
  | enableInterrupt (src : Source)
  | disableInterrupt (src : Source)
  | clearInterrupt (src : Source)
  | tryNew
  | getTicks
  | getTimeMs
  | getTimeUs
  | setTimecmp (delay : DWord)
  | setupInterrupts (entry : Word)
  | dispatch
deriving DecidableEq, Repr

/-- The format a row of the table belongs to (R70, and `pseudo` for R85's rows). -/
inductive Format where
  | m | s | e | f | c | pseudo
deriving DecidableEq, Repr

/-- The format of each operation (R72 to R76, R85). -/
def Instr.format : Instr → Format
  | .ipRead _ | .ipWrite _ _ | .ieRead _ | .ieWrite _ _ | .mtimeRead | .mtimecmpRead | .mtimecmpWrite _ | .mtimeWrite _ => .m
  | .causeRead | .tvecRead | .tvecWrite _ | .gieRead | .gieSet | .gieClear | .excReport _ | .trapReturn => .s
  | .tick | .irqLatch _ | .irqTake _ | .lineHigh _ | .lineLow _ => .e
  | .fromIrq _ | .toIrq _ | .decodeCause _ => .f
  | .causeException _ | .causeMachineSoft | .causeMachineTimer | .causeMachineExternal | .causeDma | .causeSpi | .causeUart0
  | .causeUart1 | .causeI2c | .causePwm | .causeTimerCh0 | .causeTimerCh1 | .causeWatchdog | .causeGpio
  | .causeUnknownIrq _ => .c
  | .enableInterrupt _ | .disableInterrupt _ | .clearInterrupt _ | .tryNew | .getTicks | .getTimeMs | .getTimeUs
  | .setTimecmp _ | .setupInterrupts _ | .dispatch => .pseudo

/-- A request as it arrives. The interface tells the format (R83); the bits tell the operation. -/
inductive Request where
  /-- The MMIO port: `{we, size, addr}` and `wdata` (R71). -/
  | mmio (key : BitVec 35) (wdata : DWord)
  /-- The sideband port: `{cmd, arg}` (R73). -/
  | sideband (word : BitVec 36)
  /-- An event: `{kind, idx}` (R74). -/
  | event (word : BitVec 13)
  /-- A decoder function: `{fn, in}` (R75). -/
  | func (word : BitVec 34)
  /-- A cause word put before the decoder (R76). -/
  | cause (word : Word)
  /-- An instruction fetch of the processor from `addr` (R57). -/
  | fetch (addr : Word)
  /-- A call of one of the document's software operations, which has no bit pattern (R85). -/
  | call (i : Instr)
  /-- A pattern of a width that no interface carries (R70). -/
  | noInterface (nbits word : Nat)
deriving DecidableEq, Repr

/-- One turn of a run (R55): which agent moves next. -/
inductive Turn where
  /-- A request, an event or a call. -/
  | request (r : Request)
  /-- The innermost software sequence in progress issues its next operation (log 14). -/
  | resume
deriving DecidableEq, Repr

end Sys2Proof
end

