-- ==== Sys2Proof/WellFormed.lean ====
section
/-! DEFINITION. Which terms of `Instr` stand for an operation of the spec. Bounds by `N_IRQ` depend on the block and are
checked where the operation runs (R72, R82). -/
namespace Sys2Proof

/-- The 13 known IRQ numbers (R77). -/
def knownIrqs : List Word :=
  [Config.irqMachineSoft, Config.irqMachineTimer, Config.irqMachineExternal, Config.irqGpio, Config.irqTimerCh0,
   Config.irqTimerCh1, Config.irqWatchdog, Config.irqDma, Config.irqSpi, Config.irqUart0, Config.irqUart1, Config.irqI2c,
   Config.irqPwm]

/-- Line 7 has no environment event (R22, R82). -/
def environmentDrives (i : IrqNum) : Bool := i != Config.timerLineNum

/-- `UNKNOWN_IRQ` is the class of the interrupt words no source row matches (R76). -/
def codeIsUnknown (code : BitVec 31) : Bool := !knownIrqs.contains (code.setWidth 32)

/-- The trap entry address is a multiple of 4 (R189). -/
def entryAligned (entry : Word) : Bool := entry.extractLsb' 0 2 == 0#2

/-- The checks an operand must pass for the term to be an operation of the spec. -/
def Instr.wf : Instr → Bool
  | .lineHigh i => environmentDrives i
  | .lineLow i => environmentDrives i
  | .causeUnknownIrq code => codeIsUnknown code
  | .setupInterrupts entry => entryAligned entry
  | .ipRead _ | .ipWrite _ _ | .ieRead _ | .ieWrite _ _ | .mtimeRead | .mtimecmpRead | .mtimecmpWrite _ | .mtimeWrite _
  | .causeRead | .tvecRead | .tvecWrite _ | .gieRead | .gieSet | .gieClear | .excReport _ | .trapReturn
  | .tick | .irqLatch _ | .irqTake _ | .fromIrq _ | .toIrq _ | .decodeCause _
  | .causeException _ | .causeMachineSoft | .causeMachineTimer | .causeMachineExternal | .causeDma | .causeSpi | .causeUart0
  | .causeUart1 | .causeI2c | .causePwm | .causeTimerCh0 | .causeTimerCh1 | .causeWatchdog | .causeGpio
  | .enableInterrupt _ | .disableInterrupt _ | .clearInterrupt _ | .tryNew | .getTicks | .getTimeMs | .getTimeUs
  | .setTimecmp _ | .dispatch => true

end Sys2Proof
end

