-- ==== Sys2Proof/Decode.lean ====
section
/-! DEFINITION. The decoder, total on every request, and the encoder, both written from the tables of
spec/30_encoding.md (R70 to R77). A pattern `x` hits a row when `(x & mask) == match` (R72). -/
namespace Sys2Proof

/-! ## Fields -/

/-- The row test of R72: `(pattern & mask) == match`. -/
def hits {w : Nat} (x value mask : BitVec w) : Bool := (x &&& mask) == value

/-- The last ten bits of a pattern: a bank index (R78) or an event's `idx` (R74). -/
def lowIndex {w : Nat} (x : BitVec w) : IrqNum := x.extractLsb' 0 10

/-- The last 32 bits of a pattern: `addr`, `arg` or `in` (R71, R73, R75). -/
def lowWord {w : Nat} (x : BitVec w) : Word := x.extractLsb' 0 32

/-- `in_window(a)` of R44: the two address windows of R41. -/
def inWindow (a : Word) : Bool :=
  (Config.timerBase ≤ a.toNat && a.toNat ≤ Config.timerWindowEnd) ||
  (Config.clicBase ≤ a.toNat && a.toNat ≤ Config.clicWindowEnd)

/-! ## Source ids (R77) -/

/-- The 4-bit id of a source. -/
def Source.id : Source → BitVec 4
  | .machineSoft => 0 | .machineTimer => 1 | .machineExternal => 2 | .gpio => 3 | .timerCh0 => 4 | .timerCh1 => 5
  | .watchdog => 6 | .dma => 7 | .spi => 8 | .uart0 => 9 | .uart1 => 10 | .i2c => 11 | .pwm => 12 | .unknown => 15

/-- The 14 members of `InterruptSource`, in the order of their ids. -/
def Source.all : List Source :=
  [.machineSoft, .machineTimer, .machineExternal, .gpio, .timerCh0, .timerCh1, .watchdog, .dma, .spi, .uart0, .uart1, .i2c,
   .pwm, .unknown]

/-- The source an id names; ids 13 and 14 name none (R77). -/
def Source.ofId (n : BitVec 4) : Option Source := Source.all.find? (fun s => s.id == n)

/-! ## Cause words (R76) -/

/-- One row of R76's table. -/
structure CauseRow where
  cls : CauseClass
  value : Word
  mask : Word
deriving DecidableEq, Repr

/-- R76's table, in its order; the fallback row stands last. -/
def causeTable : List CauseRow :=
  [⟨.exception, 0x00000000, 0x80000000⟩,
   ⟨.machineSoft, 0x80000003, 0xFFFFFFFF⟩,
   ⟨.machineTimer, 0x80000007, 0xFFFFFFFF⟩,
   ⟨.machineExternal, 0x8000000B, 0xFFFFFFFF⟩,
   ⟨.dma, 0x8000001F, 0xFFFFFFFF⟩,
   ⟨.spi, 0x8000002B, 0xFFFFFFFF⟩,
   ⟨.uart0, 0x8000002D, 0xFFFFFFFF⟩,
   ⟨.uart1, 0x8000002E, 0xFFFFFFFF⟩,
   ⟨.i2c, 0x80000030, 0xFFFFFFFF⟩,
   ⟨.pwm, 0x80000032, 0xFFFFFFFF⟩,
   ⟨.timerCh0, 0x80000034, 0xFFFFFFFF⟩,
   ⟨.timerCh1, 0x80000035, 0xFFFFFFFF⟩,
   ⟨.watchdog, 0x80000036, 0xFFFFFFFF⟩,
   ⟨.gpio, 0x8000003C, 0xFFFFFFFF⟩,
   ⟨.unknownIrq, 0x80000000, 0x80000000⟩]

/-- The class of a cause word: the first row of R76 that matches. -/
def classify (w : Word) : CauseClass :=
  match causeTable.find? (fun r => hits w r.value r.mask) with
  | some r => r.cls
  | none => .unknownIrq

/-- `CODE`, the 31 bits below the interrupt flag (R17). -/
def causeCode (w : Word) : BitVec 31 := w.extractLsb' 0 31

/-! ## The decoder -/

/-- Why a request is no operation. -/
inductive DecodeError where
  /-- R49, R80: the address is in a window and no register access; the port answers `err = 1`. -/
  | busError (addr : Word)
  /-- R41: the address is in no window. -/
  | notThisBlock
  /-- R82: the pattern has no meaning. -/
  | reservedEncoding
deriving DecidableEq, Repr

/-- What a request decodes to. -/
abbrev Decoded := Except DecodeError Instr

/-- A pattern that is no register access: an error response inside a window, nothing outside (R72, R80). -/
def noRegister (addr : Word) : DecodeError := if inWindow addr then .busError addr else .notThisBlock

/-- Format M (R72). A write's value is the low bits of `wdata` (R71). -/
def decodeMmio (key : BitVec 35) (wdata : DWord) : Decoded :=
  if hits key 0x002800000#35 0x7FFFFFC00#35 then .ok (.ipRead (lowIndex key))
  else if hits key 0x402800000#35 0x7FFFFFC00#35 then .ok (.ipWrite (lowIndex key) (wdata.extractLsb' 0 8))
  else if hits key 0x002800400#35 0x7FFFFFC00#35 then .ok (.ieRead (lowIndex key))
  else if hits key 0x402800400#35 0x7FFFFFC00#35 then .ok (.ieWrite (lowIndex key) (wdata.extractLsb' 0 8))
  else if hits key 0x30200BFF8#35 0x7FFFFFFFF#35 then .ok .mtimeRead
  else if hits key 0x302004000#35 0x7FFFFFFFF#35 then .ok .mtimecmpRead
  else if hits key 0x702004000#35 0x7FFFFFFFF#35 then .ok (.mtimecmpWrite wdata)
  else if hits key 0x70200BFF8#35 0x7FFFFFFFF#35 then .ok (.mtimeWrite wdata)
  else .error (noRegister (lowWord key))

/-- Format S (R73). `arg` is ignored where the table says so; of `EXC_REPORT`'s `arg` bit 31 is. -/
def decodeSideband (x : BitVec 36) : Decoded :=
  if hits x 0x000000000#36 0xF00000000#36 then .ok .causeRead
  else if hits x 0x100000000#36 0xF00000000#36 then .ok .tvecRead
  else if hits x 0x200000000#36 0xF00000000#36 then .ok (.tvecWrite (lowWord x))
  else if hits x 0x300000000#36 0xF00000000#36 then .ok .gieRead
  else if hits x 0x400000000#36 0xF00000000#36 then .ok .gieSet
  else if hits x 0x500000000#36 0xF00000000#36 then .ok .gieClear
  else if hits x 0x600000000#36 0xF00000000#36 then .ok (.excReport (x.extractLsb' 0 31))
  else if hits x 0x700000000#36 0xF00000000#36 then .ok .trapReturn
  else .error .reservedEncoding

/-- Format E (R74). `TICK` fixes all thirteen bits; line 7 has no environment event (R82). -/
def decodeEvent (x : BitVec 13) : Decoded :=
  if hits x 0x0000#13 0x1FFF#13 then .ok .tick
  else if hits x 0x0400#13 0x1C00#13 then .ok (.irqLatch (lowIndex x))
  else if hits x 0x0800#13 0x1C00#13 then .ok (.irqTake (lowIndex x))
  else if hits x 0x0C00#13 0x1C00#13 && environmentDrives (lowIndex x) then .ok (.lineHigh (lowIndex x))
  else if hits x 0x1000#13 0x1C00#13 && environmentDrives (lowIndex x) then .ok (.lineLow (lowIndex x))
  else .error .reservedEncoding

/-- Format F (R75). `TO_IRQ` needs `in[31:4] = 0` and an id that names a source (R82). -/
def decodeFunc (x : BitVec 34) : Decoded :=
  if hits x 0x000000000#34 0x300000000#34 then .ok (.fromIrq (lowWord x))
  else if hits x 0x100000000#34 0x300000000#34 then
    if hits x 0#34 0x0FFFFFFF0#34 then
      match Source.ofId (x.extractLsb' 0 4) with
      | some s => .ok (.toIrq s)
      | none => .error .reservedEncoding
    else .error .reservedEncoding
  else if hits x 0x200000000#34 0x300000000#34 then .ok (.decodeCause (lowWord x))
  else .error .reservedEncoding

/-- Format C (R76): every word has a class. -/
def decodeCauseWord (w : Word) : Decoded :=
  match classify w with
  | .exception => .ok (.causeException (causeCode w))
  | .machineSoft => .ok .causeMachineSoft
  | .machineTimer => .ok .causeMachineTimer
  | .machineExternal => .ok .causeMachineExternal
  | .dma => .ok .causeDma
  | .spi => .ok .causeSpi
  | .uart0 => .ok .causeUart0
  | .uart1 => .ok .causeUart1
  | .i2c => .ok .causeI2c
  | .pwm => .ok .causePwm
  | .timerCh0 => .ok .causeTimerCh0
  | .timerCh1 => .ok .causeTimerCh1
  | .watchdog => .ok .causeWatchdog
  | .gpio => .ok .causeGpio
  | .unknownIrq => .ok (.causeUnknownIrq (causeCode w))

/-- The operation a request is, or why it is none. The format is known from the interface (R83). -/
def decode : Request → Decoded
  | .mmio key wdata => decodeMmio key wdata
  | .sideband x => decodeSideband x
  | .event x => decodeEvent x
  | .func x => decodeFunc x
  | .cause w => decodeCauseWord w
  | .fetch addr => .error (noRegister addr)
  | .call i => if i.format == .pseudo then .ok i else .error .reservedEncoding
  | .noInterface _ _ => .error .reservedEncoding

/-! ## The encoder -/

/-- The byte address of pending entry `i` (R5, R12). -/
def ipAddr (i : IrqNum) : Word := BitVec.ofNat 32 (Config.ipBase + i.toNat)

/-- The byte address of enable entry `i` (R5, R11). -/
def ieAddr (i : IrqNum) : Word := BitVec.ofNat 32 (Config.ieBase + i.toNat)

/-- `{we, size, addr}` (R71). -/
def mmioKey (we : Bool) (size : BitVec 2) (addr : Word) : BitVec 35 := BitVec.ofBool we ++ size ++ addr

/-- `{cmd, arg}` (R73). -/
def sidebandWord (cmd : BitVec 4) (arg : Word) : BitVec 36 := cmd ++ arg

/-- `{kind, idx}` (R74). -/
def eventWord (kind : BitVec 3) (idx : IrqNum) : BitVec 13 := kind ++ idx

/-- `{fn, in}` (R75). -/
def funcWord (fn : BitVec 2) (arg : Word) : BitVec 34 := fn ++ arg

/-- `{INT, CODE}` (R76). -/
def causeWord (int : Bool) (code : BitVec 31) : Word := BitVec.ofBool int ++ code

/-- The request that carries an operation. Ignored bits are zero. -/
def encode : Instr → Request
  | .ipRead i => .mmio (mmioKey false 0 (ipAddr i)) 0
  | .ipWrite i v => .mmio (mmioKey true 0 (ipAddr i)) (v.setWidth 64)
  | .ieRead i => .mmio (mmioKey false 0 (ieAddr i)) 0
  | .ieWrite i v => .mmio (mmioKey true 0 (ieAddr i)) (v.setWidth 64)
  | .mtimeRead => .mmio (mmioKey false 3 (BitVec.ofNat 32 Config.mtimeAddr)) 0
  | .mtimecmpRead => .mmio (mmioKey false 3 (BitVec.ofNat 32 Config.mtimecmpAddr)) 0
  | .mtimecmpWrite v => .mmio (mmioKey true 3 (BitVec.ofNat 32 Config.mtimecmpAddr)) v
  | .mtimeWrite v => .mmio (mmioKey true 3 (BitVec.ofNat 32 Config.mtimeAddr)) v
  | .causeRead => .sideband (sidebandWord 0 0)
  | .tvecRead => .sideband (sidebandWord 1 0)
  | .tvecWrite w => .sideband (sidebandWord 2 w)
  | .gieRead => .sideband (sidebandWord 3 0)
  | .gieSet => .sideband (sidebandWord 4 0)
  | .gieClear => .sideband (sidebandWord 5 0)
  | .excReport code => .sideband (sidebandWord 6 (code.setWidth 32))
  | .trapReturn => .sideband (sidebandWord 7 0)
  | .tick => .event (eventWord 0 0)
  | .irqLatch i => .event (eventWord 1 i)
  | .irqTake i => .event (eventWord 2 i)
  | .lineHigh i => .event (eventWord 3 i)
  | .lineLow i => .event (eventWord 4 i)
  | .fromIrq n => .func (funcWord 0 n)
  | .toIrq s => .func (funcWord 1 (s.id.setWidth 32))
  | .decodeCause w => .func (funcWord 2 w)
  | .causeException code => .cause (causeWord false code)
  | .causeMachineSoft => .cause (causeWord true 3)
  | .causeMachineTimer => .cause (causeWord true 7)
  | .causeMachineExternal => .cause (causeWord true 11)
  | .causeDma => .cause (causeWord true 31)
  | .causeSpi => .cause (causeWord true 43)
  | .causeUart0 => .cause (causeWord true 45)
  | .causeUart1 => .cause (causeWord true 46)
  | .causeI2c => .cause (causeWord true 48)
  | .causePwm => .cause (causeWord true 50)
  | .causeTimerCh0 => .cause (causeWord true 52)
  | .causeTimerCh1 => .cause (causeWord true 53)
  | .causeWatchdog => .cause (causeWord true 54)
  | .causeGpio => .cause (causeWord true 60)
  | .causeUnknownIrq code => .cause (causeWord true code)
  | .enableInterrupt s => .call (.enableInterrupt s)
  | .disableInterrupt s => .call (.disableInterrupt s)
  | .clearInterrupt s => .call (.clearInterrupt s)
  | .tryNew => .call .tryNew
  | .getTicks => .call .getTicks
  | .getTimeMs => .call .getTimeMs
  | .getTimeUs => .call .getTimeUs
  | .setTimecmp delay => .call (.setTimecmp delay)
  | .setupInterrupts entry => .call (.setupInterrupts entry)
  | .dispatch => .call .dispatch

/-! ## Words of the opcode table -/

/-- A decoder's answer is an operation. -/
def Decoded.isOp (d : Decoded) : Bool :=
  match d with
  | .ok _ => true
  | .error _ => false

/-- The request a word of the opcode table is, from its width: 13 bits (16 in whole bytes) an event, 32 a cause word, 34 a
decoder function, 35 an MMIO key with `wdata` zero, 36 a sideband command. Formats M, S and F all take 40 bits in whole
bytes, and the interface that would tell them apart is not in the word (R83): 40 bits are read as an MMIO key where they
are one of its operations, else as a sideband command (log 3). Bits above the format's width are no part of a pattern. -/
def tableRequest (nbits w : Nat) : Request :=
  if (nbits == 13 || nbits == 16) && decide (w < 2 ^ 13) then .event (BitVec.ofNat 13 w)
  else if nbits == 32 && decide (w < 2 ^ 32) then .cause (BitVec.ofNat 32 w)
  else if nbits == 34 && decide (w < 2 ^ 34) then .func (BitVec.ofNat 34 w)
  else if (nbits == 35 || nbits == 40) && decide (w < 2 ^ 35) && (decodeMmio (BitVec.ofNat 35 w) 0).isOp then
    .mmio (BitVec.ofNat 35 w) 0
  else if nbits == 35 && decide (w < 2 ^ 35) then .mmio (BitVec.ofNat 35 w) 0
  else if (nbits == 36 || nbits == 40) && decide (w < 2 ^ 36) then .sideband (BitVec.ofNat 36 w)
  else .noInterface nbits w

/-- The operation the decoder reads from a word of the opcode table. -/
def decodeTableWord (nbits w : Nat) : Option Instr :=
  match decode (tableRequest nbits w) with
  | .ok i => some i
  | .error _ => none

end Sys2Proof
end

