-- ==== Sys2Proof/Machine/State.lean ====
section
/-! DEFINITION. The state of the block (spec/10_state.md, R10 to R24, R34), the reasons a step can stop, and reset. -/
namespace Sys2Proof
namespace Machine

/-- What the last step returned on its interface. -/
inductive Response where
  /-- The step was an event, which returns nothing. -/
  | event
  /-- The MMIO port's `(rdata, err)` (R27, R71). -/
  | mmio (rdata : DWord) (err : Bool)
  /-- The sideband port's `res` (R28), zero where R73 names none. -/
  | sideband (res : Word)
  /-- `FROM_IRQ`'s source (R160). -/
  | source (src : Source)
  /-- `TO_IRQ`'s `valid` and `irq` (R161). -/
  | irqNumber (valid : Bool) (irq : Word)
  /-- `DECODE`'s `path` and `src` (R163). -/
  | decoded (path : Path) (src : Source)
  /-- A cause word's class (R76), with what `DECODE` answers for the word. -/
  | classified (cls : CauseClass) (path : Path) (src : Source)
  /-- `try_new`'s instance, by its frequency, or none (R183). -/
  | timeBase (freq : Option Nat)
  /-- The 64-bit result of `get_ticks`, `get_time_ms` or `get_time_us` (R184, R186, R187). -/
  | time (value : DWord)
deriving DecidableEq, Repr

/-- What the last step did to the processor's control: the three transfers of R234. -/
inductive Transfer where
  /-- None. -/
  | stay
  /-- Trap entry: `pc <- {TVEC[31:2], 0b00}` (R226). -/
  | trapEntry (target : Word)
  /-- The dispatcher calls a handler (R165, R190). -/
  | handlerCall (h : Handler)
  /-- Trap return; where the processor resumes is not known to the block (R229). -/
  | trapReturn
deriving DecidableEq, Repr

/-- A stop of the software layer. The block itself has none. -/
inductive Fault where
  /-- `Panic(UnknownHasNoIrq)`: `enable_interrupt`, `disable_interrupt` or `clear_interrupt` of `Unknown`, before any bus
  access (R180 to R182, R263). The spec names the stop. Safe. -/
  | panicUnknownHasNoIrq
  /-- `DivideByZero`: `get_time_ms` or `get_time_us` with a zero scale (R186, R187). The spec names the stop. Safe. -/
  | divideByZero
deriving DecidableEq, Repr

/-- Why a step has no meaning. -/
inductive Refusal where
  /-- An instruction that has no meaning yet, by its mnemonic. Safe. -/
  | notModelled (mnemonic : String)
  /-- The agenda is empty: the run has no further step (R268; log 2). Raised by the fetch. Safe. -/
  | endOfRun
  /-- A `resume` turn with no software sequence in progress (log 14). Raised by the fetch. Safe. -/
  | noCallInProgress
  /-- `Refused(NotThisBlock)`: the address lies in neither window (R41). Raised by the fetch, and by a software access. Safe. -/
  | notThisBlock
  /-- `Refused(ReservedEncoding)` (R82). Raised by the fetch, and by an event whose index the block does not have. Safe. -/
  | reservedEncoding
  /-- `Refused(ReservedTvecMode)`: `TVEC_WRITE` of a mode other than direct (R142, R143). Safe. -/
  | reservedTvecMode
  /-- `IRQ_TAKE` or `EXC_REPORT` while `TVEC` holds a reserved mode, so that the trap entry has no meaning (R143, R226;
  log 12). Safe. -/
  | trapTargetHasNoMeaning
  /-- `Refused(ReturnWithoutTrap)`: `TRAP_RETURN` with an empty `SVC` (R148). Safe. -/
  | returnWithoutTrap
  /-- `IRQ_LATCH` or `IRQ_TAKE` whose enabling condition does not hold: the spec has no such step (R219, R222; log 11). Safe. -/
  | notEnabled
  /-- A time operation while `F_TICK` is absent: there is no instance to call it on (R183; log 15). Safe. -/
  | noTimeBase
  /-- `setup_interrupts` called a second time, or after software has enabled a line (R253; log 21). Safe. -/
  | setupNotFirst
deriving DecidableEq, Repr

/-- How far software has brought the block up since reset, as far as R253 asks of `setup_interrupts` (log 21). -/
inductive Boot where
  /-- Software has neither called `setup_interrupts` nor enabled a line. -/
  | fresh
  /-- Software has enabled a line, and has not called `setup_interrupts`. -/
  | linesEnabled
  /-- `setup_interrupts` has been called. -/
  | setUp
deriving DecidableEq, Repr

/-- The phase after an enable entry is written with `on`: writing a 1 ends the fresh phase, writing a 0 enables no line. -/
def Boot.afterEnable (b : Boot) (on : Bool) : Boot :=
  if on then
    match b with
    | .fresh => .linesEnabled
    | .linesEnabled => .linesEnabled
    | .setUp => .setUp
  else b

/-- The state (R10), the inputs and outputs at the block's boundary (R21, R23, R27, R28), and the run's own bookkeeping. -/
structure State where
  /-- The parameters of this block (R6, R24), the same for the whole run. -/
  cfg : Config.Params
  /-- The enable bank `IE`, entry `i` at index `i` (R11). -/
  ie : List Bool
  /-- The pending bank `IP`, entry `i` at index `i` (R12). -/
  ip : List Bool
  /-- `MTIME` (R15). -/
  mtime : DWord
  /-- `MTIMECMP` (R16). -/
  mtimecmp : DWord
  /-- `CAUSE` (R17). -/
  cause : Word
  /-- `TVEC` (R18). -/
  tvec : Word
  /-- `GIE` (R19). -/
  gie : Bool
  /-- `SVC`, the top first (R20). -/
  svc : List SvcEntry
  /-- `irq_in`, entry `i` at index `i` (R21); the entry of line 7 is never read (R22). -/
  lines : List Bool
  /-- The software sequences in progress, the innermost first: the operations each has still to issue (log 14). -/
  calls : List (List Instr)
  /-- What software has done of the initialisation since reset (R253; log 21). -/
  boot : Boot
  /-- What the last step returned (log 17). -/
  resp : Response
  /-- What the last step did to the processor's control (log 17). -/
  xfer : Transfer
  /-- The turns to come, in the order of the run (R55; log 1). -/
  agenda : List Turn
  /-- How many free values have been drawn (log 5). -/
  freeCount : Nat
deriving DecidableEq, Repr

/-- The three outcomes of a step. -/
abbrev Out := Host.Outcome State Fault Refusal

/-- `N_IRQ` of this block. -/
def State.nIrq (s : State) : Nat := s.cfg.nIrq

/-- The `n` entries of a bank from entry `k` on, entry `i` holding `f i`. -/
def bankFrom (f : Nat → Bool) (k : Nat) : Nat → List Bool
  | 0 => []
  | n + 1 => f k :: bankFrom f (k + 1) n

/-- A bank of `n` entries, entry `i` holding `f i`. -/
def bankOf (n : Nat) (f : Nat → Bool) : List Bool := bankFrom f 0 n

/-- What R34 and R35 leave unspecified at reset: one draw for each register and line, per run. Entry `i` of
a bank's draw is entry `i` of the bank, and an entry the draw does not list is 0. -/
structure ResetDraw where
  ie : List Bool
  ip : List Bool
  mtime : DWord
  mtimecmp : DWord
  cause : Word
  tvec : Word
  lines : List Bool
deriving DecidableEq, Repr

/-- The state right after reset, for the given block and the given draw of the unspecified values (R34, R35, R250). -/
def State.resetWith (p : Config.Params) (d : ResetDraw) : State where
  cfg := p
  ie := bankOf p.nIrq (fun i => d.ie.getD i false)
  ip := bankOf p.nIrq (fun i => d.ip.getD i false)
  mtime := d.mtime
  mtimecmp := d.mtimecmp
  cause := d.cause
  tvec := d.tvec
  gie := false
  svc := []
  lines := bankOf p.nIrq (fun i => d.lines.getD i false)
  calls := []
  boot := .fresh
  resp := .event
  xfer := .stay
  agenda := []
  freeCount := 0

/-- The draw that `State.reset` names: every unspecified register zero and every line low (log 7, log 8). -/
def ResetDraw.zero : ResetDraw where
  ie := []
  ip := []
  mtime := 0
  mtimecmp := 0
  cause := 0
  tvec := 0
  lines := []

/-- The machine right after reset. -/
def State.reset : State := State.resetWith Config.platform ResetDraw.zero

end Machine
end Sys2Proof
end

