-- ==== Sys2Proof/Machine/Operands.lean ====
section
/-! DEFINITION. Bit fields, bank entries as bytes, the trap layouts and the time scales: how operands and results are put
together (R13, R17, R18, R48, R78, R185). -/
namespace Sys2Proof
namespace Machine

/-- `zext_8` of a bank entry: `0x00` or `0x01` (R13). -/
def bitByte (b : Bool) : Byte := if b then 1 else 0

/-- `zext_32(GIE)` (R144). -/
def bitWord (b : Bool) : Word := if b then 1 else 0

/-- The byte a bank entry reads as (R100, R102). -/
def bankRead (b : List Bool) (i : Nat) : Byte := bitByte (b.getD i false)

/-- A bank with entry `i` written: bit 0 of the byte is stored, bits 7 to 1 are ignored (R13, R101, R103). -/
def bankWrite (b : List Bool) (i : Nat) (v : Byte) : List Bool := b.set i (v.getLsbD 0)

/-- Byte `k` of a 64-bit register, little-endian (R48). -/
def byteOf (v : DWord) (k : Nat) : Byte := v.extractLsb' (8 * k) 8

/-- `{0b1, zext_31(i)}`: the cause of a taken interrupt (R222). -/
def interruptCause (i : IrqNum) : Word := causeWord true (i.setWidth 31)

/-- `{0b0, code[30:0]}`: the cause of a reported exception (R147). -/
def exceptionCause (code : BitVec 31) : Word := causeWord false code

/-- `INT` of a cause word (R17). -/
def causeInt (w : Word) : Bool := w.getLsbD 31

/-- `MODE = 0b00`, direct dispatch, in a vector-base word (R18). -/
def modeIsDirect (w : Word) : Bool := w.extractLsb' 0 2 == 0#2

/-- `{w[31:2], 0b00}`: the entry address of a vector-base word (R18, R189). -/
def entryAddress (w : Word) : Word := w.extractLsb' 2 30 ++ 0#2

/-- `scale_ms` and `scale_us`: the tick frequency in kilohertz or megahertz, truncated (R185). -/
def scaleMs (freq : Nat) : Nat := freq / 1000
def scaleUs (freq : Nat) : Nat := freq / 1000000

/-- The unsigned truncating division of R186 and R187, for a divisor other than zero. -/
def divTicks (t : DWord) (scale : Nat) : DWord := BitVec.ofNat 64 (t.toNat / scale)

end Machine
end Sys2Proof
end

