-- ==== Sys2Proof/Machine/Flags.lean ====
section
/-! DEFINITION. What follows from the state without being stored: the comparator's line, the candidate and take conditions,
the two outputs to the processor (R21 to R23, R125, R221, R222). -/
namespace Sys2Proof
namespace Machine

/-- The comparator's output, `MTIME >=u MTIMECMP` (R125). -/
def State.timerLine (s : State) : Bool := s.mtimecmp.ule s.mtime

/-- `irq_in[i]`: line 7 is the comparator's, every other line the environment's (R21, R22). -/
def State.irqIn (s : State) (i : IrqNum) : Bool :=
  if i = Config.timerLineNum then s.timerLine else s.lines.getD i.toNat false

/-- `i <u N_IRQ`. -/
def State.hasIrq (s : State) (i : IrqNum) : Bool := decide (i.toNat < s.nIrq)

/-- `i` is a candidate: it exists, is enabled and is pending (R221). -/
def State.candidate (s : State) (i : IrqNum) : Bool :=
  s.hasIrq i && s.ie.getD i.toNat false && s.ip.getD i.toNat false

/-- Nothing is in service, or `e` may preempt what is (R222, R231). -/
def State.mayEnter (s : State) (e : SvcEntry) : Bool :=
  match s.svc with
  | [] => true
  | top :: _ => s.cfg.nesting && s.cfg.preempts e top

/-- `takeable(i)` (R222). -/
def State.takeable (s : State) (i : IrqNum) : Bool := s.gie && s.candidate i && s.mayEnter (.irq i)

/-- The output `trap_req`: some interrupt is takeable (R23, R222). -/
def State.trapReq (s : State) : Bool := (List.range s.nIrq).any (fun n => s.takeable (BitVec.ofNat 10 n))

/-- The output `trap_target` (R23). -/
def State.trapTarget (s : State) : Word := entryAddress s.tvec

end Machine
end Sys2Proof
end

