-- ==== Sys2Proof/Machine/Ops.lean ====
section
/-! DEFINITION. The operations the meanings share: answering on a port, the register map, `MemRead` and `MemWrite`
(R44, R45), entering and leaving a trap (R147, R148, R222, R226), and starting a software sequence. -/
namespace Sys2Proof
namespace Machine

/-! ## Answers -/

/-- The step returns `r` and leaves the processor's control alone. -/
def State.reply (s : State) (r : Response) : State := { s with resp := r, xfer := .stay }

/-- An MMIO transaction whose `rdata` the spec leaves unspecified: a free value (log 5). -/
def State.answerFree (s : State) (err : Bool) : State :=
  { s.reply (.mmio (Config.freeRdata s.freeCount) err) with freeCount := s.freeCount + 1 }

/-- A completed read: `rdata` is the value, `err = 0` (R71). -/
def State.answerRead (s : State) (v : DWord) : State := s.reply (.mmio v false)

/-- A completed write: `err = 0`. -/
def State.answerWrite (s : State) : State := s.answerFree false

/-- `BusError`: the transaction ends with `err = 1` and nothing else changes (R49; log 4). -/
def State.answerBusError (s : State) : State := s.answerFree true

/-! ## Register writes -/

/-- `IP[i] <- v[0]` (R101). -/
def State.writeIp (s : State) (i : IrqNum) (v : Byte) : State := { s with ip := bankWrite s.ip i.toNat v }

/-- `IE[i] <- v[0]` (R103). A 1 is a line enabled by software (log 21). -/
def State.writeIe (s : State) (i : IrqNum) (v : Byte) : State :=
  { s with ie := bankWrite s.ie i.toNat v, boot := s.boot.afterEnable (v.getLsbD 0) }

/-- `IP[i] <- 1` (R219). -/
def State.latchIp (s : State) (i : IrqNum) : State := { s with ip := s.ip.set i.toNat true }

/-- `MTIMECMP <- v` (R122). -/
def State.writeMtimecmp (s : State) (v : DWord) : State := { s with mtimecmp := v }

/-- `MTIME <- MTIME +64 1` (R123). -/
def State.advanceMtime (s : State) : State := { s with mtime := s.mtime + 1 }

/-- `TVEC <- w` (R142). -/
def State.writeTvec (s : State) (w : Word) : State := { s with tvec := w }

/-- `GIE <- b` (R145, R146). -/
def State.writeGie (s : State) (b : Bool) : State := { s with gie := b }

/-- `irq_in[i] <- b` (R217, R218). -/
def State.writeLine (s : State) (i : IrqNum) (b : Bool) : State := { s with lines := s.lines.set i.toNat b }

/-! ## The register map -/

/-- The byte at address `a`, or none where no register is (R42, R48). -/
def State.byteAt (s : State) (a : Nat) : Option Byte :=
  if Config.ipBase ≤ a ∧ a < Config.ipBase + s.nIrq then some (bankRead s.ip (a - Config.ipBase))
  else if Config.ieBase ≤ a ∧ a < Config.ieBase + s.nIrq then some (bankRead s.ie (a - Config.ieBase))
  else if Config.mtimeAddr ≤ a ∧ a < Config.mtimeAddr + 8 then some (byteOf s.mtime (a - Config.mtimeAddr))
  else if Config.mtimecmpAddr ≤ a ∧ a < Config.mtimecmpAddr + 8 then some (byteOf s.mtimecmp (a - Config.mtimecmpAddr))
  else none

/-- How a memory primitive ends: with a result, with the error response, or outside the block. -/
inductive MemAnswer (α : Type) where
  | done (a : α)
  | busError
  | notThisBlock
deriving DecidableEq, Repr

/-- An address that is no register access of the width asked for (R44, R45). -/
def noAccess {α : Type} (addr : Word) : MemAnswer α := if inWindow addr then .busError else .notThisBlock

/-- `MemRead(addr, n)` (R44). -/
def State.memRead (s : State) (addr : Word) (n : Nat) : MemAnswer DWord :=
  let a := addr.toNat
  if n = 1 ∧ Config.ipBase ≤ a ∧ a < Config.ipBase + s.nIrq then .done ((bankRead s.ip (a - Config.ipBase)).setWidth 64)
  else if n = 1 ∧ Config.ieBase ≤ a ∧ a < Config.ieBase + s.nIrq then
    .done ((bankRead s.ie (a - Config.ieBase)).setWidth 64)
  else if n = 8 ∧ a = Config.mtimeAddr then .done s.mtime
  else if n = 8 ∧ a = Config.mtimecmpAddr then .done s.mtimecmp
  else noAccess addr

/-- `MemWrite(addr, n, v)` (R45), with `v` in the low `8 * n` bits. -/
def State.memWrite (s : State) (addr : Word) (n : Nat) (v : DWord) : MemAnswer State :=
  let a := addr.toNat
  if n = 1 ∧ Config.ipBase ≤ a ∧ a < Config.ipBase + s.nIrq then
    .done (s.writeIp (BitVec.ofNat 10 (a - Config.ipBase)) (v.extractLsb' 0 8))
  else if n = 1 ∧ Config.ieBase ≤ a ∧ a < Config.ieBase + s.nIrq then
    .done (s.writeIe (BitVec.ofNat 10 (a - Config.ieBase)) (v.extractLsb' 0 8))
  else if n = 8 ∧ a = Config.mtimecmpAddr then .done (s.writeMtimecmp v)
  else noAccess addr

/-- One read transaction: its outcome is `k` of the value read. -/
def State.readThen (s : State) (addr n : Nat) (k : DWord → Out) : Out :=
  match s.memRead (BitVec.ofNat 32 addr) n with
  | .done v => k v
  | .busError => .next s.answerBusError
  | .notThisBlock => .refused .notThisBlock

/-- One write transaction. -/
def State.writeTransaction (s : State) (addr n : Nat) (v : DWord) : Out :=
  match s.memWrite (BitVec.ofNat 32 addr) n v with
  | .done t => .next t.answerWrite
  | .busError => .next s.answerBusError
  | .notThisBlock => .refused .notThisBlock

/-! ## Traps -/

/-- Taking a trap: `CAUSE` takes the cause, `SVC` the entry, and the processor goes to `trap_target`. The block saves the
cause and nothing else: no pc, no register, not `GIE` (R147, R222, R226). -/
def State.enterTrap (s : State) (cause : Word) (e : SvcEntry) : State :=
  { s with
    cause := cause
    svc := e :: s.svc
    xfer := .trapEntry s.trapTarget }

/-- Taking a trap, in direct mode; under a reserved mode the entry has no meaning and the step is refused (R143, R226). -/
def State.takeTrap (s : State) (cause : Word) (e : SvcEntry) : Out :=
  if modeIsDirect s.tvec then .next (s.enterTrap cause e) else .refused .trapTargetHasNoMeaning

/-- Returning from a trap: one entry leaves `SVC` and nothing is restored (R148, R229). None where `SVC` is empty. -/
def State.leaveTrap (s : State) : Option State :=
  match s.svc with
  | [] => none
  | _ :: rest => some { s with svc := rest, xfer := .trapReturn }

/-! ## Software sequences -/

/-- A software sequence has issued an operation and has `todo` left; it becomes the innermost one (log 14). -/
def State.pushCall (s : State) (todo : List Instr) : State := { s with calls := todo :: s.calls }

/-- `setup_interrupts` has been called (R253; log 21). -/
def State.startSetup (s : State) : State := { s with boot := .setUp }

/-- The dispatcher calls a handler (R190). -/
def State.callHandler (s : State) (h : Handler) : State := { s with xfer := .handlerCall h }

end Machine
end Sys2Proof
end

