-- ==== Sys2Proof/Machine/Bank.lean ====
section
/-! DEFINITION. The bank operations (spec/40_bank_ops.md). -/
namespace Sys2Proof
namespace Machine

/-- `IP_READ i` (R100). -/
def execIpRead (i : IrqNum) (s : State) : Out :=
  if s.hasIrq i then .next (s.answerRead ((bankRead s.ip i.toNat).setWidth 64)) else .next s.answerBusError

/-- `IP_WRITE i, v` (R101). -/
def execIpWrite (i : IrqNum) (v : Byte) (s : State) : Out :=
  if s.hasIrq i then .next (s.writeIp i v).answerWrite else .next s.answerBusError

/-- `IE_READ i` (R102). -/
def execIeRead (i : IrqNum) (s : State) : Out :=
  if s.hasIrq i then .next (s.answerRead ((bankRead s.ie i.toNat).setWidth 64)) else .next s.answerBusError

/-- `IE_WRITE i, v` (R103). -/
def execIeWrite (i : IrqNum) (v : Byte) (s : State) : Out :=
  if s.hasIrq i then .next (s.writeIe i v).answerWrite else .next s.answerBusError

end Machine
end Sys2Proof
end

