-- ==== Sys2Proof/Machine/CauseDecoder.lean ====
section
/-! DEFINITION. The trap-cause decoder: its three functions (spec/43_decoder.md) and its answer for each class of cause word
(R76). It reads no state and changes none (R25, R166); a call only leaves its answer in `resp`. -/
namespace Sys2Proof
namespace Machine

/-- `FROM_IRQ n`, total over all 32-bit numbers (R160). -/
def fromIrq (n : Word) : Source :=
  if n = Config.irqMachineSoft then .machineSoft
  else if n = Config.irqMachineTimer then .machineTimer
  else if n = Config.irqMachineExternal then .machineExternal
  else if n = Config.irqDma then .dma
  else if n = Config.irqSpi then .spi
  else if n = Config.irqUart0 then .uart0
  else if n = Config.irqUart1 then .uart1
  else if n = Config.irqI2c then .i2c
  else if n = Config.irqPwm then .pwm
  else if n = Config.irqTimerCh0 then .timerCh0
  else if n = Config.irqTimerCh1 then .timerCh1
  else if n = Config.irqWatchdog then .watchdog
  else if n = Config.irqGpio then .gpio
  else .unknown

/-- `TO_IRQ src`: the number of a known source, none for `Unknown` (R161). -/
def toIrq : Source → Option Word
  | .machineSoft => some Config.irqMachineSoft
  | .machineTimer => some Config.irqMachineTimer
  | .machineExternal => some Config.irqMachineExternal
  | .gpio => some Config.irqGpio
  | .timerCh0 => some Config.irqTimerCh0
  | .timerCh1 => some Config.irqTimerCh1
  | .watchdog => some Config.irqWatchdog
  | .dma => some Config.irqDma
  | .spi => some Config.irqSpi
  | .uart0 => some Config.irqUart0
  | .uart1 => some Config.irqUart1
  | .i2c => some Config.irqI2c
  | .pwm => some Config.irqPwm
  | .unknown => none

/-- `DECODE w`: the dispatch path and the source (R163). All 31 bits of the code count (R168; log 24). -/
def decodeTrapCause (w : Word) : Path × Source :=
  if causeInt w then
    match fromIrq ((causeCode w).setWidth 32) with
    | .unknown => (.exceptionPath, .unknown)
    | s => (.handler, s)
  else (.exceptionPath, .unknown)

/-- The handler a path and source select (R165). -/
def handlerOf : Path × Source → Handler
  | (.handler, s) => .ofSource s
  | (.exceptionPath, _) => .exceptionHandler

/-- A cause word put before the decoder: the class of R76 and the answer of `DECODE`. -/
def State.presentCause (s : State) (w : Word) : State :=
  s.reply (.classified (classify w) (decodeTrapCause w).1 (decodeTrapCause w).2)

/-- `FROM_IRQ n` (R160). -/
def execFromIrq (n : Word) (s : State) : Out := .next (s.reply (.source (fromIrq n)))

/-- `TO_IRQ src` (R161). For `Unknown` the number is a free value (log 6). -/
def execToIrq (src : Source) (s : State) : Out :=
  match toIrq src with
  | some n => .next (s.reply (.irqNumber true n))
  | none => .next { s.reply (.irqNumber false (Config.freeIrq s.freeCount)) with freeCount := s.freeCount + 1 }

/-- `DECODE w` (R163). -/
def execDecodeCause (w : Word) (s : State) : Out :=
  .next (s.reply (.decoded (decodeTrapCause w).1 (decodeTrapCause w).2))

/-- `EXCEPTION` (R163): any word with `INT = 0`. -/
def execCauseException (code : BitVec 31) (s : State) : Out := .next (s.presentCause (causeWord false code))

/-- `MachineSoft` (R204). -/
def execCauseMachineSoft (s : State) : Out := .next (s.presentCause 0x80000003)

/-- `MachineTimer` (R205). -/
def execCauseMachineTimer (s : State) : Out := .next (s.presentCause 0x80000007)

/-- `MachineExternal` (R206). -/
def execCauseMachineExternal (s : State) : Out := .next (s.presentCause 0x8000000B)

/-- `Dma` (R207). -/
def execCauseDma (s : State) : Out := .next (s.presentCause 0x8000001F)

/-- `Spi` (R208). -/
def execCauseSpi (s : State) : Out := .next (s.presentCause 0x8000002B)

/-- `Uart0` (R209). -/
def execCauseUart0 (s : State) : Out := .next (s.presentCause 0x8000002D)

/-- `Uart1` (R210). -/
def execCauseUart1 (s : State) : Out := .next (s.presentCause 0x8000002E)

/-- `I2c` (R211). -/
def execCauseI2c (s : State) : Out := .next (s.presentCause 0x80000030)

/-- `Pwm` (R212). -/
def execCausePwm (s : State) : Out := .next (s.presentCause 0x80000032)

/-- `TimerCh0` (R213). -/
def execCauseTimerCh0 (s : State) : Out := .next (s.presentCause 0x80000034)

/-- `TimerCh1` (R214). -/
def execCauseTimerCh1 (s : State) : Out := .next (s.presentCause 0x80000035)

/-- `Watchdog` (R215). -/
def execCauseWatchdog (s : State) : Out := .next (s.presentCause 0x80000036)

/-- `Gpio` (R216). -/
def execCauseGpio (s : State) : Out := .next (s.presentCause 0x8000003C)

/-- `UNKNOWN_IRQ` (R163): a word with `INT = 1` whose code is no known number. -/
def execCauseUnknownIrq (code : BitVec 31) (s : State) : Out := .next (s.presentCause (causeWord true code))

end Machine
end Sys2Proof
end

