-- ==== Sys2Proof/Machine/Events.lean ====
section
/-! DEFINITION. Lines, latching and taking (spec/60_exceptions.md sections 3 and 4). -/
namespace Sys2Proof
namespace Machine

/-- `IRQ_LATCH i` (R219): enabled while the line is high, whatever `IE[i]` and `GIE` hold. -/
def execIrqLatch (i : IrqNum) (s : State) : Out :=
  if s.hasIrq i then
    if s.irqIn i then .next ((s.latchIp i).reply .event) else .refused .notEnabled
  else .refused .reservedEncoding

/-- `IRQ_TAKE i` (R222): enabled while `takeable(i)`; refused where the trap target has no meaning (R226). -/
def execIrqTake (i : IrqNum) (s : State) : Out :=
  if s.hasIrq i then
    if s.takeable i then (s.reply .event).takeTrap (interruptCause i) (.irq i) else .refused .notEnabled
  else .refused .reservedEncoding

/-- `LINE_HIGH i` (R217). -/
def execLineHigh (i : IrqNum) (s : State) : Out :=
  if s.hasIrq i && environmentDrives i then .next ((s.writeLine i true).reply .event) else .refused .reservedEncoding

/-- `LINE_LOW i` (R218). `IP[i]` is not cleared. -/
def execLineLow (i : IrqNum) (s : State) : Out :=
  if s.hasIrq i && environmentDrives i then .next ((s.writeLine i false).reply .event) else .refused .reservedEncoding

end Machine
end Sys2Proof
end

