-- ==== Sys2Proof/Machine/Sideband.lean ====
section
/-! DEFINITION. The sideband commands (spec/42_sideband_ops.md). A command with no result answers `res = 0` (R73). -/
namespace Sys2Proof
namespace Machine

/-- `CAUSE_READ` (R140). -/
def execCauseRead (s : State) : Out := .next (s.reply (.sideband s.cause))

/-- `TVEC_READ` (R141). -/
def execTvecRead (s : State) : Out := .next (s.reply (.sideband s.tvec))

/-- `TVEC_WRITE w` (R142, R143). -/
def execTvecWrite (w : Word) (s : State) : Out :=
  if modeIsDirect w then .next ((s.writeTvec w).reply (.sideband 0)) else .refused .reservedTvecMode

/-- `GIE_READ` (R144). -/
def execGieRead (s : State) : Out := .next (s.reply (.sideband (bitWord s.gie)))

/-- `GIE_SET` (R145). -/
def execGieSet (s : State) : Out := .next ((s.writeGie true).reply (.sideband 0))

/-- `GIE_CLEAR` (R146). -/
def execGieClear (s : State) : Out := .next ((s.writeGie false).reply (.sideband 0))

/-- `EXC_REPORT code` (R147): accepted whatever `GIE`, `IE`, `IP` and `SVC` hold; refused only where the trap entry has no
meaning (R226; log 12). -/
def execExcReport (code : BitVec 31) (s : State) : Out := (s.reply (.sideband 0)).takeTrap (exceptionCause code) .exc

/-- `TRAP_RETURN` (R148). -/
def execTrapReturn (s : State) : Out :=
  match (s.reply (.sideband 0)).leaveTrap with
  | some t => .next t
  | none => .refused .returnWithoutTrap

end Machine
end Sys2Proof
end

