-- ==== Sys2Proof/Machine/Software.lean ====
section
/-! DEFINITION. The document's software operations (spec/44_software_sequences.md). Each issues its first operation in its
own step; what is left of `set_timecmp`, `setup_interrupts` and `dispatch` is issued by later `resume` turns, so that other
steps may fall between (R188, R227; log 14). -/
namespace Sys2Proof
namespace Machine

/-- The number of a source, or the panic of `Unknown` (R180 to R182). -/
def withIrq (src : Source) (k : Word → Out) : Out :=
  match toIrq src with
  | some n => k n
  | none => .fault .panicUnknownHasNoIrq

/-- The time base a time operation is called on: there is one only when `F_TICK` is present (R183; log 15). -/
def State.withTimeBase (s : State) (k : Nat → Out) : Out :=
  match s.cfg.fTick with
  | some freq => k freq
  | none => .refused .noTimeBase

/-- `get_ticks() / scale` (R186, R187). -/
def State.readScaled (s : State) (scale : Nat) : Out :=
  s.readThen Config.mtimeAddr 8 (fun t =>
    if scale = 0 then .fault .divideByZero else .next (s.reply (.time (divTicks t scale))))

/-- `enable_interrupt src` (R180). -/
def execEnableInterrupt (src : Source) (s : State) : Out :=
  withIrq src (fun irq => s.writeTransaction (Config.ieBase + irq.toNat) 1 0x01)

/-- `disable_interrupt src` (R181). -/
def execDisableInterrupt (src : Source) (s : State) : Out :=
  withIrq src (fun irq => s.writeTransaction (Config.ieBase + irq.toNat) 1 0x00)

/-- `clear_interrupt src` (R182). -/
def execClearInterrupt (src : Source) (s : State) : Out :=
  withIrq src (fun irq => s.writeTransaction (Config.ipBase + irq.toNat) 1 0x00)

/-- `try_new` (R183): no operation of the block. -/
def execTryNew (s : State) : Out := .next (s.reply (.timeBase s.cfg.fTick))

/-- `get_ticks` (R184). -/
def execGetTicks (s : State) : Out :=
  s.withTimeBase (fun _ => s.readThen Config.mtimeAddr 8 (fun t => .next (s.reply (.time t))))

/-- `get_time_ms` (R186). -/
def execGetTimeMs (s : State) : Out := s.withTimeBase (fun freq => s.readScaled (scaleMs freq))

/-- `get_time_us` (R187). -/
def execGetTimeUs (s : State) : Out := s.withTimeBase (fun freq => s.readScaled (scaleUs freq))

/-- `set_timecmp delay` (R188): reads the counter, and has `MTIMECMP_WRITE (now +64 delay)` left to issue. -/
def execSetTimecmp (delay : DWord) (s : State) : Out :=
  s.withTimeBase (fun _ => s.readThen Config.mtimeAddr 8 (fun now =>
    .next ((s.answerRead now).pushCall [.mtimecmpWrite (now + delay)])))

/-- What `setup_interrupts entry` issues after its first operation, for banks of `n` entries (R189). -/
def setupRest (n : Nat) (entry : Word) : List Instr :=
  .tvecWrite (entryAddress entry) ::
    ((List.range n).map (fun i => .ieWrite (BitVec.ofNat 10 i) 0) ++
     (List.range n).map (fun i => .ipWrite (BitVec.ofNat 10 i) 0) ++ [.gieSet])

/-- `setup_interrupts entry` (R189): issues `GIE_CLEAR`, and has the rest left. A second call, and a call after software has
enabled a line, is refused (R253; log 21). -/
def execSetupInterrupts (entry : Word) (s : State) : Out :=
  if s.boot = .fresh then
    .next (((s.writeGie false).reply (.sideband 0)).startSetup.pushCall (setupRest s.nIrq entry))
  else .refused .setupNotFirst

/-- `dispatch` (R190): issues `CAUSE_READ`, decodes the word and calls the selected handler; the exit sequence's
`TRAP_RETURN` is left for when the handler returns. The trap frame is no state of the block (R4). -/
def execDispatch (s : State) : Out :=
  .next (((s.reply (.sideband s.cause)).callHandler (handlerOf (decodeTrapCause s.cause))).pushCall [.trapReturn])

end Machine
end Sys2Proof
end

