-- ==== Sys2Proof/Machine/Timer.lean ====
section
/-! DEFINITION. The operations on the tick counter and its compare register (spec/41_timer_ops.md). -/
namespace Sys2Proof
namespace Machine

/-- `MTIME_READ` (R120). -/
def execMtimeRead (s : State) : Out := .next (s.answerRead s.mtime)

/-- `MTIMECMP_READ` (R121). -/
def execMtimecmpRead (s : State) : Out := .next (s.answerRead s.mtimecmp)

/-- `MTIMECMP_WRITE v` (R122). `IP[7]` is not written; line 7 follows from the comparator (R125). -/
def execMtimecmpWrite (v : DWord) (s : State) : Out := .next (s.writeMtimecmp v).answerWrite

/-- `MTIME_WRITE v` (R124): the counter is read-only, so the transaction ends with the error response whatever `v` is. -/
def execMtimeWrite (_v : DWord) (s : State) : Out := .next s.answerBusError

/-- `TICK` (R123). -/
def execTick (s : State) : Out := .next (s.advanceMtime.reply .event)

end Machine
end Sys2Proof
end

