-- ==== Sys2Proof/Machine/Dispatch.lean ====
section
/-! DEFINITION. One arm for each constructor of `Instr`. -/
namespace Sys2Proof
namespace Machine

def exec (i : Instr) (s : State) : Host.Outcome State Fault Refusal :=
  match i with
  -- Format M
  | .ipRead n => Sys2Proof.Machine.execIpRead n s
  | .ipWrite n v => Sys2Proof.Machine.execIpWrite n v s
  | .ieRead n => Sys2Proof.Machine.execIeRead n s
  | .ieWrite n v => Sys2Proof.Machine.execIeWrite n v s
  | .mtimeRead => Sys2Proof.Machine.execMtimeRead s
  | .mtimecmpRead => Sys2Proof.Machine.execMtimecmpRead s
  | .mtimecmpWrite v => Sys2Proof.Machine.execMtimecmpWrite v s
  | .mtimeWrite v => Sys2Proof.Machine.execMtimeWrite v s
  -- Format S
  | .causeRead => Sys2Proof.Machine.execCauseRead s
  | .tvecRead => Sys2Proof.Machine.execTvecRead s
  | .tvecWrite w => Sys2Proof.Machine.execTvecWrite w s
  | .gieRead => Sys2Proof.Machine.execGieRead s
  | .gieSet => Sys2Proof.Machine.execGieSet s
  | .gieClear => Sys2Proof.Machine.execGieClear s
  | .excReport code => Sys2Proof.Machine.execExcReport code s
  | .trapReturn => Sys2Proof.Machine.execTrapReturn s
  -- Format E
  | .tick => Sys2Proof.Machine.execTick s
  | .irqLatch n => Sys2Proof.Machine.execIrqLatch n s
  | .irqTake n => Sys2Proof.Machine.execIrqTake n s
  | .lineHigh n => Sys2Proof.Machine.execLineHigh n s
  | .lineLow n => Sys2Proof.Machine.execLineLow n s
  -- Format F
  | .fromIrq n => Sys2Proof.Machine.execFromIrq n s
  | .toIrq src => Sys2Proof.Machine.execToIrq src s
  | .decodeCause w => Sys2Proof.Machine.execDecodeCause w s
  -- Format C
  | .causeException code => Sys2Proof.Machine.execCauseException code s
  | .causeMachineSoft => Sys2Proof.Machine.execCauseMachineSoft s
  | .causeMachineTimer => Sys2Proof.Machine.execCauseMachineTimer s
  | .causeMachineExternal => Sys2Proof.Machine.execCauseMachineExternal s
  | .causeDma => Sys2Proof.Machine.execCauseDma s
  | .causeSpi => Sys2Proof.Machine.execCauseSpi s
  | .causeUart0 => Sys2Proof.Machine.execCauseUart0 s
  | .causeUart1 => Sys2Proof.Machine.execCauseUart1 s
  | .causeI2c => Sys2Proof.Machine.execCauseI2c s
  | .causePwm => Sys2Proof.Machine.execCausePwm s
  | .causeTimerCh0 => Sys2Proof.Machine.execCauseTimerCh0 s
  | .causeTimerCh1 => Sys2Proof.Machine.execCauseTimerCh1 s
  | .causeWatchdog => Sys2Proof.Machine.execCauseWatchdog s
  | .causeGpio => Sys2Proof.Machine.execCauseGpio s
  | .causeUnknownIrq code => Sys2Proof.Machine.execCauseUnknownIrq code s
  -- The software operations
  | .enableInterrupt src => Sys2Proof.Machine.execEnableInterrupt src s
  | .disableInterrupt src => Sys2Proof.Machine.execDisableInterrupt src s
  | .clearInterrupt src => Sys2Proof.Machine.execClearInterrupt src s
  | .tryNew => Sys2Proof.Machine.execTryNew s
  | .getTicks => Sys2Proof.Machine.execGetTicks s
  | .getTimeMs => Sys2Proof.Machine.execGetTimeMs s
  | .getTimeUs => Sys2Proof.Machine.execGetTimeUs s
  | .setTimecmp delay => Sys2Proof.Machine.execSetTimecmp delay s
  | .setupInterrupts entry => Sys2Proof.Machine.execSetupInterrupts entry s
  | .dispatch => Sys2Proof.Machine.execDispatch s

end Machine
end Sys2Proof
end

