-- ==== Sys2Proof/Machine/Fetch.lean ====
section
/-! DEFINITION. Which operation the next turn of the agenda runs (R55, R83; log 1, log 14). -/
namespace Sys2Proof
namespace Machine

/-- What the next turn asks for. -/
inductive Fetched where
  /-- Run `i` at `s`. -/
  | run (i : Instr) (s : State)
  /-- The port answers the error response at `s` (R49). -/
  | busError (s : State)
  /-- There is no step, or none the spec gives a meaning. -/
  | refused (r : Refusal)
deriving DecidableEq, Repr

/-- The state with its first turn taken off the agenda. -/
def State.withAgenda (s : State) (a : List Turn) : State := { s with agenda := a }

/-- A request becomes the operation it decodes to. -/
def fetchRequest (r : Request) (s : State) : Fetched :=
  match decode r with
  | .ok i => .run i s
  | .error (.busError _) => .busError s
  | .error .notThisBlock => .refused .notThisBlock
  | .error .reservedEncoding => .refused .reservedEncoding

/-- The calls in progress once the innermost, with `todo` left, has issued an operation: a call with nothing left is over. -/
def callsAfter (todo : List Instr) (outer : List (List Instr)) : List (List Instr) :=
  if todo.isEmpty then outer else todo :: outer

/-- The innermost call in progress issues its next operation. -/
def fetchResume (s : State) : Fetched :=
  match s.calls with
  | (i :: todo) :: outer => .run i { s with calls := callsAfter todo outer }
  | [] :: _ => .refused .noCallInProgress
  | [] => .refused .noCallInProgress

/-- The next turn of the agenda. -/
def fetch (s : State) : Fetched :=
  match s.agenda with
  | [] => .refused .endOfRun
  | .request r :: rest => fetchRequest r (s.withAgenda rest)
  | .resume :: rest => fetchResume (s.withAgenda rest)

end Machine
end Sys2Proof
end

