-- ==== Sys2Proof/Machine/Step.lean ====
section
/-! DEFINITION. One step of a run: the next turn of the agenda, executed (R55). -/
namespace Sys2Proof
namespace Machine

/-- One step. -/
def step (s : State) : Host.Outcome State Fault Refusal :=
  match fetch s with
  | .run i t => exec i t
  | .busError t => .next t.answerBusError
  | .refused r => .refused r

/-- The state with a word of the opcode table as the next turn (log 2, log 3). -/
def State.withFetchWord (s : State) (nbits w : Nat) : State :=
  s.withAgenda (.request (tableRequest nbits w) :: s.agenda)

end Machine
end Sys2Proof
end

