-- ==== Sys2Proof/Safety.lean ====
section
/-! DEFINITION. The terms claims are stated in: the invariants of the state, what a bus error is to a run, and the duties of
software (R253 to R263). -/
namespace Sys2Proof
namespace Machine

/-! ## Invariants -/

/-- The operations the document's sequences issue after their first one, with operands the block accepts (R188 to R190). -/
def sequenceOp (n : Nat) : Instr → Bool
  | .ieWrite i _ => decide (i.toNat < n)
  | .ipWrite i _ => decide (i.toNat < n)
  | .tvecWrite w => modeIsDirect w
  | .mtimecmpWrite _ => true
  | .gieSet => true
  | .trapReturn => true
  | .ipRead _ | .ieRead _ | .mtimeRead | .mtimecmpRead | .mtimeWrite _ | .causeRead | .tvecRead | .gieRead | .gieClear
  | .excReport _ | .tick | .irqLatch _ | .irqTake _ | .lineHigh _ | .lineLow _ | .fromIrq _ | .toIrq _ | .decodeCause _
  | .causeException _ | .causeMachineSoft | .causeMachineTimer | .causeMachineExternal | .causeDma | .causeSpi | .causeUart0
  | .causeUart1 | .causeI2c | .causePwm | .causeTimerCh0 | .causeTimerCh1 | .causeWatchdog | .causeGpio
  | .causeUnknownIrq _ | .enableInterrupt _ | .disableInterrupt _ | .clearInterrupt _ | .tryNew | .getTicks | .getTimeMs
  | .getTimeUs | .setTimecmp _ | .setupInterrupts _ | .dispatch => false

/-- A call in progress has something left to issue. -/
def callOk (n : Nat) (todo : List Instr) : Bool := !todo.isEmpty && todo.all (sequenceOp n)

/-- An entry of `SVC` names a line of the block (R20). -/
def entryOk (n : Nat) : SvcEntry → Bool
  | .irq i => decide (i.toNat < n)
  | .exc => true

/-- A bank has exactly one entry for each IRQ number (R11, R12): the one form in which a bank's contents are held. -/
def bankWf (n : Nat) (b : List Bool) : Bool := b.length == n

/-- The register file keeps its form: what `Memory.wf` is to a machine with memory cells. -/
def State.memoryWf (s : State) : Bool := bankWf s.nIrq s.ie && bankWf s.nIrq s.ip

/-- The state is one the spec's block can be in (R11, R12, R20, R21). -/
def State.wf (s : State) : Bool :=
  s.memoryWf && bankWf s.nIrq s.lines && s.svc.all (entryOk s.nIrq) && s.calls.all (callOk s.nIrq)

/-- Each entry stands on one it could be entered over: `Exc` on anything (R147), `Irq(i)` only under `NESTING` on one it
preempts (R222, R231). -/
def svcOrdered (p : Config.Params) : List SvcEntry → Bool
  | [] => true
  | [_] => true
  | a :: b :: rest => (a == .exc || (p.nesting && p.preempts a b)) && svcOrdered p (b :: rest)

/-- `SVC` holds only what `IRQ_TAKE` and `EXC_REPORT` can have pushed. -/
def State.serviceOrdered (s : State) : Bool := svcOrdered s.cfg s.svc

/-- An entry of `SVC` that is an interrupt. -/
def SvcEntry.isIrq : SvcEntry → Bool
  | .irq _ => true
  | .exc => false

/-- `CAUSE` is a word the block can have put there: an exception's, or an interrupt's with a code below `N_IRQ` (R167). -/
def State.causeInRange (s : State) : Bool := !causeInt s.cause || decide ((causeCode s.cause).toNat < s.nIrq)

/-! ## Bus errors -/

/-- The last step was a transaction that ended with `err = 1`. To a run this is the fault R49 speaks of: a run is free of
faults when no state of it has this (log 4). -/
def State.busFault (s : State) : Bool :=
  match s.resp with
  | .mmio _ err => err
  | _ => false

/-! ## Duties of software

What breaks them has a definite result by the rules and runs; only what R253 has a model refuse, and a panic, stop. A claim about
a program that keeps a duty takes it as a premise (log 21, log 22). -/

/-- The operation a turn asks for, where it is one. -/
def turnOp : Turn → Option Instr
  | .request r =>
    match decode r with
    | .ok i => some i
    | .error _ => none
  | .resume => none

/-- The operation the next step runs, where it runs one. -/
def State.nextOp (s : State) : Option Instr :=
  match fetch s with
  | .run i _ => some i
  | .busError _ => none
  | .refused _ => none

/-- How many of the first `k` steps from `s` run an operation of the kind `p`. -/
def opsAlongRun (p : Instr → Bool) : Nat → State → Nat
  | 0, _ => 0
  | k + 1, s =>
    (if s.nextOp.any p then 1 else 0) +
    (match step s with
     | .next t => opsAlongRun p k t
     | .fault _ => 0
     | .refused _ => 0)

/-- The next step is asked for by a request, and is no later operation of a sequence in progress. -/
def State.nextIsRequest (s : State) : Bool :=
  match s.agenda with
  | .request _ :: _ => true
  | .resume :: _ => false
  | [] => false

/-- What R253 puts after `setup_interrupts`: the timer operations, the writes of the banks and the three interrupt operations,
and `GIE_SET`. -/
def needsSetup : Instr → Bool
  | .mtimeRead | .mtimecmpRead | .mtimecmpWrite _ | .mtimeWrite _ => true
  | .getTicks | .getTimeMs | .getTimeUs | .setTimecmp _ => true
  | .ieWrite _ _ | .ipWrite _ _ => true
  | .enableInterrupt _ | .disableInterrupt _ | .clearInterrupt _ => true
  | .gieSet => true
  | _ => false

/-- A call of `setup_interrupts` with operations left: of all sequences only its remainder ends with `GIE_SET`. -/
def midSetup (todo : List Instr) : Bool := todo.getLast? == some .gieSet

/-- `setup_interrupts` has been called and has ended. -/
def State.setupEnded (s : State) : Bool := s.boot == .setUp && !s.calls.any midSetup

/-- R253: what needs `setup_interrupts` is asked for only once that has ended. The rest of R253, that it runs once and before any
line is enabled, the step itself sees to (`Refusal.setupNotFirst`). -/
def State.setupComesFirst (s : State) : Bool :=
  !(s.nextIsRequest && s.nextOp.any needsSetup) || s.setupEnded

/-- A bank write of a value other than 0 or 1 (spec/93_implementation_defined.md U1). -/
def oddBankWrite : Instr → Bool
  | .ieWrite _ v => v != 0 && v != 1
  | .ipWrite _ v => v != 0 && v != 1
  | _ => false

/-- U1's safer reading: a program writes only 0 and 1 to the banks. -/
def bankWritesArePlain (ts : List Turn) : Bool := (ts.filterMap turnOp).all (fun i => !oddBankWrite i)

/-- R263: a program never converts `Unknown` to an IRQ number. -/
def namesUnknown : Instr → Bool
  | .enableInterrupt .unknown | .disableInterrupt .unknown | .clearInterrupt .unknown => true
  | _ => false

/-- R263 for a whole program. -/
def neverConvertsUnknown (ts : List Turn) : Bool := (ts.filterMap turnOp).all (fun i => !namesUnknown i)

/-- R264: `TVEC` changes only with `GIE = 0` and with no trap in service. -/
def State.tvecWrittenInQuiet (s : State) : Bool :=
  match s.nextOp with
  | some (.tvecWrite _) => !s.gie && s.svc.isEmpty
  | _ => true

/-- A call of `set_timecmp` that has read the counter and not yet written the compare register. -/
def midTimecmp (todo : List Instr) : Bool :=
  match todo with
  | [.mtimecmpWrite _] => true
  | _ => false

/-- R257: calls of `set_timecmp` are serialized, so that at most one stands between its read and its write. -/
def State.timecmpSerialized (s : State) : Bool := s.calls.countP midTimecmp ≤ 1

/-- A duty kept before each of the first `k` steps from `s`. -/
def keptAlongRun (duty : State → Bool) : Nat → State → Bool
  | 0, _ => true
  | k + 1, s =>
    duty s &&
    (match step s with
     | .next t => keptAlongRun duty k t
     | .fault _ => true
     | .refused _ => true)

end Machine
end Sys2Proof
end

