-- ==== Sys2Proof/Certificates/Slice0/Obligations.lean ====
section
/-! DEFINITION. The statements for the provers. Each docstring names the rule or section of spec/ it formalises. A free value
(`Config.freeRdata`, `Config.freeIrq`) stands for any value: no statement needs to know it. The fields `resp` and `xfer`, in
which a next state shows what a step returned and where it sent the processor, are the model's own form of the spec's outputs
(log 17). -/
open Sys2Proof Sys2Proof.Machine

namespace Sys2Proof
namespace Machine

/-! ## Words the statements use -/

/-- The rows of R76 with a known source: the operation, its class, its source and its IRQ number. -/
def sourceRows : List (Instr × CauseClass × Source × Word) :=
  [(.causeMachineSoft, .machineSoft, .machineSoft, 3), (.causeMachineTimer, .machineTimer, .machineTimer, 7),
   (.causeMachineExternal, .machineExternal, .machineExternal, 11), (.causeDma, .dma, .dma, 31), (.causeSpi, .spi, .spi, 43),
   (.causeUart0, .uart0, .uart0, 45), (.causeUart1, .uart1, .uart1, 46), (.causeI2c, .i2c, .i2c, 48),
   (.causePwm, .pwm, .pwm, 50), (.causeTimerCh0, .timerCh0, .timerCh0, 52), (.causeTimerCh1, .timerCh1, .timerCh1, 53),
   (.causeWatchdog, .watchdog, .watchdog, 54), (.causeGpio, .gpio, .gpio, 60)]

/-- `s` after a transaction that changed no register: any `rdata`, the given `err` (R49). -/
def State.onlyAnswered (s : State) (err : Bool) : State :=
  { s with resp := .mmio (Config.freeRdata s.freeCount) err, xfer := .stay, freeCount := s.freeCount + 1 }

/-- An outcome that is no next state. -/
def noNext (o : Out) : Prop := ∀ t, o ≠ .next t

/-- The registers, the lines, the parameters and the bookkeeping of the run (agenda, calls, phase) are those of `s`: only the answer, the control
transfer and the count of free values may differ. -/
def State.sameRegisters (s t : State) : Prop :=
  t = { s with resp := t.resp, xfer := t.xfer, freeCount := t.freeCount }

/-- The bytes of the register map an operation or event stores to: the first, and how many (R101, R103, R122, R123, R180 to
R182, R219). -/
def storedBytes : Instr → Nat × Nat
  | .ipWrite i _ => ((ipAddr i).toNat, 1)
  | .ieWrite i _ => ((ieAddr i).toNat, 1)
  | .irqLatch i => ((ipAddr i).toNat, 1)
  | .mtimecmpWrite _ => (Config.mtimecmpAddr, 8)
  | .tick => (Config.mtimeAddr, 8)
  | .enableInterrupt src => match toIrq src with | some n => (Config.ieBase + n.toNat, 1) | none => (0, 0)
  | .disableInterrupt src => match toIrq src with | some n => (Config.ieBase + n.toNat, 1) | none => (0, 0)
  | .clearInterrupt src => match toIrq src with | some n => (Config.ipBase + n.toNat, 1) | none => (0, 0)
  | _ => (0, 0)

/-- An operation that writes enable entry `i` (R103, R180, R181). -/
def writesEnable (i : IrqNum) : Instr → Bool
  | .ieWrite j _ => j == i
  | .enableInterrupt src => toIrq src == some (i.setWidth 32)
  | .disableInterrupt src => toIrq src == some (i.setWidth 32)
  | _ => false

/-- An operation that writes `MTIMECMP` (R122). -/
def writesCompare : Instr → Bool
  | .mtimecmpWrite _ => true
  | _ => false

/-- The event that advances `MTIME` (R123). -/
def isTick : Instr → Bool
  | .tick => true
  | _ => false

/-- `k` steps of the machine, stopping at the first that answers no next state. -/
def runSteps : Nat → State → Out
  | 0, s => .next s
  | k + 1, s =>
    match step s with
    | .next t => runSteps k t
    | .fault f => .fault f
    | .refused r => .refused r

end Machine
end Sys2Proof

/-! ## Encodings -/

/-- Words written out from the tables R72 to R76 (and the E vectors of spec/95_test_vectors.md) decode to the operation each
stands for. -/
def Obligations.WordsOfTheTablesDecode : Prop :=
  decode (.mmio 0x40280043C#35 0xFF) = .ok (.ieWrite 60 0xFF) ∧
  decode (.mmio 0x00280003C#35 0) = .ok (.ipRead 60) ∧
  decode (.mmio 0x702004000#35 0x2AF8) = .ok (.mtimecmpWrite 11000) ∧
  decode (.sideband 0x223001000#36) = .ok (.tvecWrite 0x23001000) ∧
  decode (.sideband 0x6FFFFFFFF#36) = .ok (.excReport 0x7FFFFFFF) ∧
  decode (.event 0x083C#13) = .ok (.irqTake 60) ∧
  decode (.event 0x0001#13) = .error .reservedEncoding ∧
  decode (.func 0x28000003C#34) = .ok (.decodeCause 0x8000003C) ∧
  decode (.func 0x10000000D#34) = .error .reservedEncoding ∧
  decode (.cause 0x8000002D#32) = .ok .causeUart0 ∧
  decode (.mmio 0x002800800#35 0) = .error .notThisBlock ∧
  decode (.mmio 0x302000000#35 0) = .error (.busError 0x02000000)

/-- For every well-formed operation, at every value of every operand, decoding its encoding gives it back
(spec/30_encoding.md, R70 to R77). -/
def Obligations.DecodeInvertsEncode : Prop :=
  ∀ i : Instr, i.wf = true → decode (encode i) = .ok i

/-- Each row of R72 is decided by its own mask and match alone, so that no two rows share a pattern: a key decodes to the
row's operation, with the row's fields, exactly when `(key & mask) == match`. -/
def Obligations.MmioRowsDecideTheKey : Prop :=
  ∀ (key : BitVec 35) (wdata : DWord),
    ((key &&& 0x7FFFFFC00#35 = 0x002800000#35) ↔ decode (.mmio key wdata) = .ok (.ipRead (key.extractLsb' 0 10))) ∧
    ((key &&& 0x7FFFFFC00#35 = 0x402800000#35) ↔
      decode (.mmio key wdata) = .ok (.ipWrite (key.extractLsb' 0 10) (wdata.extractLsb' 0 8))) ∧
    ((key &&& 0x7FFFFFC00#35 = 0x002800400#35) ↔ decode (.mmio key wdata) = .ok (.ieRead (key.extractLsb' 0 10))) ∧
    ((key &&& 0x7FFFFFC00#35 = 0x402800400#35) ↔
      decode (.mmio key wdata) = .ok (.ieWrite (key.extractLsb' 0 10) (wdata.extractLsb' 0 8))) ∧
    (key = 0x30200BFF8#35 ↔ decode (.mmio key wdata) = .ok .mtimeRead) ∧
    (key = 0x302004000#35 ↔ decode (.mmio key wdata) = .ok .mtimecmpRead) ∧
    (key = 0x702004000#35 ↔ decode (.mmio key wdata) = .ok (.mtimecmpWrite wdata)) ∧
    (key = 0x70200BFF8#35 ↔ decode (.mmio key wdata) = .ok (.mtimeWrite wdata))

/-- R82: the patterns with no meaning are refused, each as it arrives, and every other pattern of formats S, E and F is an
operation. -/
def Obligations.ReservedPatternsAreRefused : Prop :=
  (∀ (s : State) (x : BitVec 36) (rest : List Turn), s.agenda = .request (.sideband x) :: rest →
    (8 ≤ (x.extractLsb' 32 4).toNat → step s = .refused .reservedEncoding) ∧
    (x.extractLsb' 32 4 = 2#4 → x.extractLsb' 0 2 ≠ 0#2 → step s = .refused .reservedTvecMode) ∧
    ((x.extractLsb' 32 4).toNat < 8 → ∃ i, decode (.sideband x) = .ok i)) ∧
  (∀ (s : State) (x : BitVec 13) (rest : List Turn), s.agenda = .request (.event x) :: rest →
    (5 ≤ (x.extractLsb' 10 3).toNat → step s = .refused .reservedEncoding) ∧
    (s.nIrq ≤ (x.extractLsb' 0 10).toNat → step s = .refused .reservedEncoding) ∧
    (x.extractLsb' 10 3 = 0#3 → x.extractLsb' 0 10 ≠ 0#10 → step s = .refused .reservedEncoding) ∧
    ((x.extractLsb' 10 3 = 3#3 ∨ x.extractLsb' 10 3 = 4#3) → x.extractLsb' 0 10 = 7#10 →
      step s = .refused .reservedEncoding) ∧
    ((x.extractLsb' 10 3).toNat < 5 → (x.extractLsb' 10 3 = 0#3 → x.extractLsb' 0 10 = 0#10) →
      (x.extractLsb' 10 3 = 3#3 ∨ x.extractLsb' 10 3 = 4#3 → x.extractLsb' 0 10 ≠ 7#10) →
      ∃ i, decode (.event x) = .ok i)) ∧
  (∀ (s : State) (x : BitVec 34) (rest : List Turn), s.agenda = .request (.func x) :: rest →
    (x.extractLsb' 32 2 = 3#2 → step s = .refused .reservedEncoding) ∧
    (x.extractLsb' 32 2 = 1#2 →
      (x.extractLsb' 4 28 ≠ 0#28 ∨ x.extractLsb' 0 4 = 13#4 ∨ x.extractLsb' 0 4 = 14#4) →
      step s = .refused .reservedEncoding) ∧
    (x.extractLsb' 32 2 ≠ 3#2 →
      (x.extractLsb' 32 2 = 1#2 → x.extractLsb' 4 28 = 0#28 ∧ x.extractLsb' 0 4 ≠ 13#4 ∧ x.extractLsb' 0 4 ≠ 14#4) →
      ∃ i, decode (.func x) = .ok i))

/-- The table of R76 and the function of R163 agree on every cause word: the class `EXCEPTION` is bit 31 clear, a source's
class is exactly the words `DECODE` sends to that source's handler and exactly the word `0x80000000 + irq`, and `UNKNOWN_IRQ`
is every other word. -/
def Obligations.CauseClassesAgreeWithDecode : Prop :=
  ∀ w : Word,
    (classify w = .exception ↔ w.getLsbD 31 = false) ∧
    (∀ row ∈ sourceRows,
      (classify w = row.2.1 ↔ decodeTrapCause w = (.handler, row.2.2.1)) ∧
      (classify w = row.2.1 ↔ w = 0x80000000#32 + row.2.2.2)) ∧
    (classify w = .unknownIrq ↔ w.getLsbD 31 = true ∧ decodeTrapCause w = (.exceptionPath, .unknown))

/-! ## Steps -/

/-- What a step adds around `exec` (R55): the head of the agenda is taken off, a request that decodes is run, a request whose
address has no register answers the error response as a next state (log 4), a `resume` turn runs the next operation of the
innermost call, and an empty agenda ends the run with the refusal `endOfRun`. The agenda, the end of a run and the calls are the
model's own choices (log 1, log 2, log 14). -/
def Obligations.StepRunsTheDecodedOperation : Prop :=
  (∀ (s : State) (r : Request) (rest : List Turn) (i : Instr), s.agenda = .request r :: rest → decode r = .ok i →
    step s = exec i { s with agenda := rest }) ∧
  (∀ (s : State) (r : Request) (rest : List Turn) (a : Word), s.agenda = .request r :: rest →
    decode r = .error (.busError a) → step s = .next (State.onlyAnswered { s with agenda := rest } true)) ∧
  (∀ (s : State) (rest : List Turn) (i j : Instr) (todo : List Instr) (outer : List (List Instr)),
    s.agenda = .resume :: rest →
    (s.calls = [i] :: outer → step s = exec i { s with agenda := rest, calls := outer }) ∧
    (s.calls = (i :: j :: todo) :: outer → step s = exec i { s with agenda := rest, calls := (j :: todo) :: outer })) ∧
  (∀ s : State, s.agenda = [] → step s = .refused .endOfRun)

/-- An MMIO transaction, decoded by the table of R72 and executed, is what `MemRead` and `MemWrite` of R44 and R45 say it is:
the same value, the same register written, the same error response, the same refusal. -/
def Obligations.MmioPortIsMemReadAndMemWrite : Prop :=
  ∀ (s : State) (key : BitVec 35) (wdata : DWord) (rest : List Turn),
    s.agenda = .request (.mmio key wdata) :: rest →
    let u : State := { s with agenda := rest }
    let n := 2 ^ (key.extractLsb' 32 2).toNat
    let addr : Word := key.extractLsb' 0 32
    (key.getLsbD 34 = false → step s =
      match u.memRead addr n with
      | .done v => .next { u with resp := .mmio v false, xfer := .stay }
      | .busError => .next (u.onlyAnswered true)
      | .notThisBlock => .refused .notThisBlock) ∧
    (key.getLsbD 34 = true → step s =
      match u.memWrite addr n wdata with
      | .done t => .next (t.onlyAnswered false)
      | .busError => .next (u.onlyAnswered true)
      | .notThisBlock => .refused .notThisBlock)

/-! ## Banks -/

/-- `IP_READ` and `IE_READ` of an entry that exists return `0x00` or `0x01` and change nothing else (R100, R102). -/
def Obligations.BankReadsReturnTheEntry : Prop :=
  ∀ (i : IrqNum) (s : State), i.toNat < s.nIrq →
    exec (.ipRead i) s
      = .next { s with resp := .mmio (if s.ip.getD i.toNat false then 1 else 0) false, xfer := .stay } ∧
    exec (.ieRead i) s
      = .next { s with resp := .mmio (if s.ie.getD i.toNat false then 1 else 0) false, xfer := .stay }

/-- `IP_WRITE` and `IE_WRITE` of an entry that exists store bit 0 of the value in that entry and change nothing else
(R101, R103). That writing a 1 to an enable entry is also remembered for R253, in `boot`, is the model's own (log 21). -/
def Obligations.BankWritesStoreBitZero : Prop :=
  ∀ (i : IrqNum) (v : Byte) (s : State), i.toNat < s.nIrq →
    exec (.ipWrite i v) s = .next (State.onlyAnswered { s with ip := s.ip.set i.toNat (v.getLsbD 0) } false) ∧
    exec (.ieWrite i v) s = .next (State.onlyAnswered
      { s with ie := s.ie.set i.toNat (v.getLsbD 0), boot := s.boot.afterEnable (v.getLsbD 0) } false)

/-- R13: a bank entry is one byte address with one implemented bit. A write ignores bits 7 to 1; a read returns them as zero, so it returns `0x00`
or `0x01`, and after a write it returns bit 0 of what was written. -/
def Obligations.BankEntryImplementsOneBit : Prop :=
  ∀ (i : IrqNum) (v : Byte) (s : State), s.wf = true → i.toNat < s.nIrq →
    (s.byteAt (0x02800000 + i.toNat) = some (if s.ip.getD i.toNat false then 1 else 0) ∧
      s.byteAt (0x02800400 + i.toNat) = some (if s.ie.getD i.toNat false then 1 else 0)) ∧
    (∃ t u, exec (.ipWrite i v) s = .next t ∧ exec (.ipRead i) t = .next u ∧
      u.resp = .mmio (if v.getLsbD 0 then 1 else 0) false) ∧
    (∃ t u, exec (.ieWrite i v) s = .next t ∧ exec (.ieRead i) t = .next u ∧
      u.resp = .mmio (if v.getLsbD 0 then 1 else 0) false) ∧
    (∀ v' : Byte, v'.getLsbD 0 = v.getLsbD 0 → exec (.ipWrite i v') s = exec (.ipWrite i v) s ∧
      exec (.ieWrite i v') s = exec (.ieWrite i v) s) ∧
    (∃ t, exec (.ipRead i) s = .next t ∧ (t.resp = .mmio 0x00 false ∨ t.resp = .mmio 0x01 false)) ∧
    (∃ t, exec (.ieRead i) s = .next t ∧ (t.resp = .mmio 0x00 false ∨ t.resp = .mmio 0x01 false))

/-- R104: a bank write changes exactly one bit. The byte at the entry's address becomes bit 0 of the value, the byte at every
other address reads as before, no other register changes, and a latch of another line just before or just after a clear is
not undone by it. (`boot` is what software has done, no state of the block: log 21.) -/
def Obligations.BankWriteChangesOneBit : Prop :=
  ∀ (i : IrqNum) (v : Byte) (s : State), s.wf = true → i.toNat < s.nIrq →
    (∃ t, exec (.ipWrite i v) s = .next t ∧
      t.byteAt (ipAddr i).toNat = some (if v.getLsbD 0 then 1 else 0) ∧
      (∀ a, a ≠ (ipAddr i).toNat → t.byteAt a = s.byteAt a) ∧
      State.sameRegisters { s with ip := t.ip } t) ∧
    (∃ t, exec (.ieWrite i v) s = .next t ∧
      t.byteAt (ieAddr i).toNat = some (if v.getLsbD 0 then 1 else 0) ∧
      (∀ a, a ≠ (ieAddr i).toNat → t.byteAt a = s.byteAt a) ∧
      State.sameRegisters { s with ie := t.ie, boot := t.boot } t) ∧
    (∀ j : IrqNum, j ≠ i → j.toNat < s.nIrq → s.irqIn j = true →
      (∃ t u, exec (.irqLatch j) s = .next t ∧ exec (.ipWrite i 0) t = .next u ∧ u.ip.getD j.toNat false = true ∧
        u.ip.getD i.toNat false = false) ∧
      (∃ t u, exec (.ipWrite i 0) s = .next t ∧ exec (.irqLatch j) t = .next u ∧ u.ip.getD j.toNat false = true ∧
        u.ip.getD i.toNat false = false))

/-- R50: a one-byte access at a bank index at or above `N_IRQ` reaches no entry and raises `BusError`, whichever bank and
whichever direction; and the document's own indices, those of `TO_IRQ` and those of the initialiser's loop, are below. -/
def Obligations.AccessBeyondTheBankIsABusError : Prop :=
  (∀ (s : State) (we ie : Bool) (k : Nat) (wdata : DWord) (rest : List Turn), s.nIrq ≤ k → k ≤ 0x3FF →
    s.agenda = .request (.mmio (mmioKey we 0 (BitVec.ofNat 32 ((if ie then 0x02800400 else 0x02800000) + k))) wdata) :: rest →
    step s = .next (State.onlyAnswered { s with agenda := rest } true)) ∧
  (∀ (src : Source) (n : Word), toIrq src = some n → n.toNat ≤ 60) ∧
  (∀ (n : Nat) (entry : Word), n ≤ 1024 → ∀ op ∈ setupRest n entry, ∀ (i : IrqNum) (v : Byte),
    (op = .ieWrite i v ∨ op = .ipWrite i v) → i.toNat < n)

/-- The bank operations themselves answer the error response, and change no register, at an index the block does not have
(R100 to R103, exceptions). -/
def Obligations.BankOperationsAnswerBusError : Prop :=
  ∀ (i : IrqNum) (v : Byte) (s : State), s.nIrq ≤ i.toNat →
    exec (.ipRead i) s = .next (s.onlyAnswered true) ∧ exec (.ipWrite i v) s = .next (s.onlyAnswered true) ∧
    exec (.ieRead i) s = .next (s.onlyAnswered true) ∧ exec (.ieWrite i v) s = .next (s.onlyAnswered true)

/-- R52: no read changes a register, clears a flag or acknowledges an interrupt, even one that ends in the error response; two
reads of `IE[i]`, or of `MTIMECMP`, give the same value however many steps of whatever kind fall between, as long as none of
them writes that very register, and a read depends on that register alone; while a `TICK` or a latch between two reads shows; and
a write repeated leaves the registers the first one left. -/
def Obligations.ReadsHaveNoSideEffect : Prop :=
  (∀ (s : State) (op : Instr), (∃ i, op = .ipRead i) ∨ (∃ i, op = .ieRead i) ∨ op = .mtimeRead ∨ op = .mtimecmpRead →
    ∃ t, exec op s = .next t ∧ s.sameRegisters t) ∧
  (∀ (k : Nat) (s t u v : State) (i : IrqNum), i.toNat < s.nIrq → exec (.ieRead i) s = .next t → runSteps k t = .next u →
    opsAlongRun (writesEnable i) k t = 0 → exec (.ieRead i) u = .next v → v.resp = t.resp) ∧
  (∀ (k : Nat) (s t u v : State), exec .mtimecmpRead s = .next t → runSteps k t = .next u →
    opsAlongRun writesCompare k t = 0 → exec .mtimecmpRead u = .next v → v.resp = t.resp) ∧
  (∀ (s s' t t' : State) (i : IrqNum), i.toNat < s.nIrq → s'.cfg = s.cfg →
    s'.ie.getD i.toNat false = s.ie.getD i.toNat false →
    exec (.ieRead i) s = .next t → exec (.ieRead i) s' = .next t' → t'.resp = t.resp) ∧
  (∀ s s' t t' : State, s'.mtimecmp = s.mtimecmp →
    exec .mtimecmpRead s = .next t → exec .mtimecmpRead s' = .next t' → t'.resp = t.resp) ∧
  (∀ s t u v : State, exec .mtimeRead s = .next t → exec .tick t = .next u → exec .mtimeRead u = .next v →
    v.resp ≠ t.resp) ∧
  (∀ (s : State) (i : IrqNum), s.wf = true → i.toNat < s.nIrq → s.irqIn i = true → s.ip.getD i.toNat false = false →
    ∃ t u v, exec (.ipRead i) s = .next t ∧ exec (.irqLatch i) t = .next u ∧ exec (.ipRead i) u = .next v ∧
      t.resp = .mmio 0 false ∧ v.resp = .mmio 1 false) ∧
  (∀ (s : State) (op : Instr), (∃ i v, op = .ipWrite i v) ∨ (∃ i v, op = .ieWrite i v) ∨ (∃ v, op = .mtimecmpWrite v) →
    ∃ t u, exec op s = .next t ∧ exec op t = .next u ∧ t.sameRegisters u)

/-! ## Timer -/

/-- `MTIME_READ` and `MTIMECMP_READ` return the register whole and change nothing else (R120, R121). -/
def Obligations.TimerReadsReturnTheRegister : Prop :=
  ∀ s : State,
    exec .mtimeRead s = .next { s with resp := .mmio s.mtime false, xfer := .stay } ∧
    exec .mtimecmpRead s = .next { s with resp := .mmio s.mtimecmp false, xfer := .stay }

/-- `MTIMECMP_WRITE v` replaces all 64 bits, little-endian at `0x02004000` to `0x02004007`, and leaves every other byte and
register alone: `IP[7]` is neither set nor cleared, and line 7 is high at once exactly when `v <=u MTIME` (R122, R48). -/
def Obligations.MtimecmpWriteReplacesTheRegister : Prop :=
  ∀ (v : DWord) (s : State),
    exec (.mtimecmpWrite v) s = .next (State.onlyAnswered { s with mtimecmp := v } false) ∧
    (∀ t, exec (.mtimecmpWrite v) s = .next t →
      (∀ k, k < 8 → t.byteAt (0x02004000 + k) = some (v.extractLsb' (8 * k) 8)) ∧
      (∀ a, a < 0x02004000 ∨ 0x02004008 ≤ a → t.byteAt a = s.byteAt a) ∧
      (t.irqIn 7 = true ↔ v.toNat ≤ s.mtime.toNat) ∧ t.ip = s.ip)

/-- R124: `MTIME_WRITE v` always ends with the error response, and `MTIME` and every other register is unchanged. -/
def Obligations.MtimeWriteIsABusError : Prop :=
  ∀ (v : DWord) (s : State),
    exec (.mtimeWrite v) s = .next (s.onlyAnswered true) ∧
    decode (.mmio 0x70200BFF8#35 v) = .ok (.mtimeWrite v)

/-- `TICK` is always enabled and adds one to `MTIME` modulo `2^64`; nothing else changes (R123). -/
def Obligations.TickAddsOneModulo : Prop :=
  ∀ s : State,
    exec .tick s
      = .next { s with mtime := BitVec.ofNat 64 ((s.mtime.toNat + 1) % 2 ^ 64), resp := .event, xfer := .stay }

/-- R22: line 7 is the comparator's at every moment and has no environment event; every other line the block has is an input
that `LINE_HIGH` raises and `LINE_LOW` lowers. -/
def Obligations.LineSevenIsTheComparators : Prop :=
  (∀ s : State, s.irqIn 7 = true ↔ s.mtimecmp.toNat ≤ s.mtime.toNat) ∧
  (∀ s : State, noNext (exec (.lineHigh 7) s) ∧ noNext (exec (.lineLow 7) s) ∧
    decode (.event (0x0C07#13)) = .error .reservedEncoding ∧ decode (.event (0x1007#13)) = .error .reservedEncoding) ∧
  (∀ (s : State) (i : IrqNum), s.wf = true → i ≠ 7 → i.toNat < s.nIrq →
    (∃ t, exec (.lineHigh i) s = .next t ∧ t.irqIn i = true) ∧ (∃ t, exec (.lineLow i) s = .next t ∧ t.irqIn i = false))

/-- R127: `TICK` is the only step that changes `MTIME`, and it adds one; so along any run without a wrap, which is a run whose
`TICK`s do not carry the counter past `2^64 - 1` however many other steps it has, the counter never decreases: it has grown by the
number of those `TICK`s, and of two reads round the run the later is not below the earlier. No call the document's sequences leave behind (`State.wf`) issues a `TICK`. -/
def Obligations.CounterNeverDecreases : Prop :=
  (∀ s t : State, s.wf = true → step s = .next t →
    t.mtime = s.mtime ∨ (t.mtime = s.mtime + 1 ∧ ∃ rest, s.agenda = .request (.event 0) :: rest)) ∧
  (∀ (k : Nat) (s t : State), runSteps k s = .next t → s.mtime.toNat + opsAlongRun isTick k s < 2 ^ 64 →
    t.mtime.toNat = s.mtime.toNat + opsAlongRun isTick k s ∧ s.mtime.toNat ≤ t.mtime.toNat) ∧
  (∀ (k : Nat) (s t u v : State), exec .mtimeRead s = .next t → runSteps k t = .next u →
    t.mtime.toNat + opsAlongRun isTick k t < 2 ^ 64 → exec .mtimeRead u = .next v →
    ∃ a b : DWord, t.resp = .mmio a false ∧ v.resp = .mmio b false ∧ a.toNat ≤ b.toNat)

/-! ## Sideband -/

/-- `CAUSE_READ`, `TVEC_READ` and `GIE_READ` return the register and change nothing else (R140, R141, R144). -/
def Obligations.SidebandReadsReturnTheRegister : Prop :=
  ∀ s : State,
    exec .causeRead s = .next { s with resp := .sideband s.cause, xfer := .stay } ∧
    exec .tvecRead s = .next { s with resp := .sideband s.tvec, xfer := .stay } ∧
    exec .gieRead s = .next { s with resp := .sideband (if s.gie then 1 else 0), xfer := .stay }

/-- `TVEC_WRITE w` installs `w` when its mode is direct, and `trap_target` is then `w`; a reserved mode is refused
(R142, R143). -/
def Obligations.TvecWriteInstallsADirectEntry : Prop :=
  ∀ (w : Word) (s : State),
    (w.extractLsb' 0 2 = 0#2 →
      exec (.tvecWrite w) s = .next { s with tvec := w, resp := .sideband 0, xfer := .stay } ∧
      State.trapTarget { s with tvec := w } = w) ∧
    (w.extractLsb' 0 2 ≠ 0#2 → exec (.tvecWrite w) s = .refused .reservedTvecMode)

/-- `GIE_SET` and `GIE_CLEAR` write `GIE` and nothing else (R145, R146). -/
def Obligations.GieSetAndClearWriteGie : Prop :=
  ∀ s : State,
    exec .gieSet s = .next { s with gie := true, resp := .sideband 0, xfer := .stay } ∧
    exec .gieClear s = .next { s with gie := false, resp := .sideband 0, xfer := .stay }

/-- R147: an exception report is accepted whatever `GIE`, `IE`, `IP` and `SVC` hold: `CAUSE` takes the code with bit 31 clear,
`Exc` is pushed, and the processor goes to `{TVEC[31:2], 0b00}`; `GIE`, `IE`, `IP`, `TVEC` and everything else is unchanged.
Under a reserved mode the entry has no meaning and the step is refused (R143, R226; log 12). -/
def Obligations.ExcReportEntersATrap : Prop :=
  ∀ (code : BitVec 31) (s : State),
    (s.tvec.extractLsb' 0 2 = 0#2 →
      exec (.excReport code) s
        = .next { s with
            cause := code.setWidth 32, svc := .exc :: s.svc, resp := .sideband 0,
            xfer := .trapEntry (s.tvec &&& 0xFFFFFFFC#32) }) ∧
    (s.tvec.extractLsb' 0 2 ≠ 0#2 → exec (.excReport code) s = .refused .trapTargetHasNoMeaning)

/-- R148: `TRAP_RETURN` pops one entry and restores nothing; with an empty stack it is refused; a source popped while still
enabled and pending is a candidate again; and its pattern is `cmd = 0x7`, whatever `arg` holds. -/
def Obligations.TrapReturnPopsOneEntry : Prop :=
  (∀ arg : Word, decode (.sideband (0x7#4 ++ arg)) = .ok .trapReturn) ∧
  (∀ s : State, s.svc = [] → exec .trapReturn s = .refused .returnWithoutTrap) ∧
  (∀ (s : State) (e : SvcEntry) (rest : List SvcEntry), s.svc = e :: rest →
    exec .trapReturn s = .next { s with svc := rest, resp := .sideband 0, xfer := .trapReturn }) ∧
  (∀ (s t : State) (i : IrqNum) (rest : List SvcEntry), s.svc = .irq i :: rest → i.toNat < s.nIrq →
    s.ie.getD i.toNat false = true → s.ip.getD i.toNat false = true → exec .trapReturn s = .next t →
    t.candidate i = true ∧ (s.gie = true → rest = [] → t.takeable i = true))

/-- R232: a synchronous exception reported while a trap is in service is accepted: `CAUSE` is overwritten, `Exc` is pushed on
what is in service, and control goes to `trap_target` again. -/
def Obligations.ExceptionInsideAHandlerIsAccepted : Prop :=
  ∀ (code : BitVec 31) (s : State), s.svc ≠ [] → s.tvec.extractLsb' 0 2 = 0#2 →
    ∃ t, exec (.excReport code) s = .next t ∧ t.cause = code.setWidth 32 ∧ t.svc = .exc :: s.svc ∧
      t.xfer = .trapEntry s.trapTarget

/-! ## Events -/

/-- `LINE_HIGH i` and `LINE_LOW i` write the level of line `i` and nothing else; `IP[i]` does not follow (R217, R218). -/
def Obligations.LineEventsWriteTheLevel : Prop :=
  ∀ (i : IrqNum) (s : State), i.toNat < s.nIrq → i ≠ 7 →
    exec (.lineHigh i) s = .next { s with lines := s.lines.set i.toNat true, resp := .event, xfer := .stay } ∧
    exec (.lineLow i) s = .next { s with lines := s.lines.set i.toNat false, resp := .event, xfer := .stay }

/-- R219: `IRQ_LATCH i` is enabled exactly while the line is high, whatever `IE[i]` and `GIE` hold, and sets `IP[i]` and
nothing else; where the flag is already set it changes no register; for line 7 the condition is `MTIME >=u MTIMECMP`. -/
def Obligations.LatchSetsThePendingFlag : Prop :=
  ∀ (i : IrqNum) (s : State), i.toNat < s.nIrq →
    (s.irqIn i = true →
      exec (.irqLatch i) s = .next { s with ip := s.ip.set i.toNat true, resp := .event, xfer := .stay } ∧
      (s.ip.getD i.toNat false = true → ∀ t, exec (.irqLatch i) s = .next t → s.sameRegisters t)) ∧
    (s.irqIn i = false → noNext (exec (.irqLatch i) s)) ∧
    (i = 7 → ((∃ t, exec (.irqLatch i) s = .next t) ↔ s.mtimecmp.toNat ≤ s.mtime.toNat)) ∧
    decode (.event (0x0400#13 + i.setWidth 13)) = .ok (.irqLatch i)

/-- R222: `IRQ_TAKE i` is enabled exactly while `takeable(i)`. It then writes `CAUSE = 0x80000000 + i`, pushes `Irq(i)` and
sends the processor to `{TVEC[31:2], 0b00}`; it writes neither `IP`, `IE`, `GIE`, `TVEC`, `MTIME` nor `MTIMECMP`. Under a
reserved mode the step is refused (R226). -/
def Obligations.TakeRecordsTheInterrupt : Prop :=
  ∀ (i : IrqNum) (s : State), i.toNat < s.nIrq →
    (s.takeable i = true ↔ s.gie = true ∧ s.ie.getD i.toNat false = true ∧ s.ip.getD i.toNat false = true ∧
      (s.svc = [] ∨ (s.cfg.nesting = true ∧ ∃ top rest, s.svc = top :: rest ∧ s.cfg.preempts (.irq i) top = true))) ∧
    (s.takeable i = true → s.tvec.extractLsb' 0 2 = 0#2 →
      exec (.irqTake i) s
        = .next { s with
            cause := 0x80000000#32 + i.setWidth 32, svc := .irq i :: s.svc, resp := .event,
            xfer := .trapEntry (s.tvec &&& 0xFFFFFFFC#32) }) ∧
    (s.takeable i = true → s.tvec.extractLsb' 0 2 ≠ 0#2 → exec (.irqTake i) s = .refused .trapTargetHasNoMeaning) ∧
    (s.takeable i = false → noNext (exec (.irqTake i) s)) ∧
    (s.trapReq = true ↔ ∃ j : IrqNum, s.takeable j = true) ∧
    decode (.event (0x0800#13 + i.setWidth 13)) = .ok (.irqTake i)

/-- R23: `trap_req` is 1 exactly when some `IRQ_TAKE(i)` is enabled, and `trap_target` is `{TVEC[31:2], 0b00}`; neither is
state, so both are functions of the registers. -/
def Obligations.OutputsToTheProcessor : Prop :=
  (∀ s : State, s.trapReq = true ↔ ∃ i : IrqNum, i.toNat < s.nIrq ∧ s.takeable i = true) ∧
  (∀ s : State, s.trapTarget = s.tvec &&& 0xFFFFFFFC#32) ∧
  (∀ s t : State, s.sameRegisters t → t.trapReq = s.trapReq ∧ t.trapTarget = s.trapTarget)

/-- R225: while a trap is in service and `NESTING` is false no interrupt can be taken, and a request that arrives meanwhile is
held in `IP`: it is latched as ever, and no event clears a pending flag. -/
def Obligations.OneTrapAtATime : Prop :=
  (∀ (s : State) (i : IrqNum), s.svc ≠ [] → s.cfg.nesting = false →
    s.takeable i = false ∧ noNext (exec (.irqTake i) s) ∧ s.trapReq = false) ∧
  (∀ (s : State) (i : IrqNum), s.wf = true → i.toNat < s.nIrq → s.irqIn i = true →
    ∃ t, exec (.irqLatch i) s = .next t ∧ t.ip.getD i.toNat false = true) ∧
  (∀ (s t : State) (op : Instr) (i : IrqNum), op.format = .e → exec op s = .next t → s.ip.getD i.toNat false = true →
    t.ip.getD i.toNat false = true)

/-- R220: a cleared pending flag stays 0 until `IRQ_LATCH(i)` or a write of 1; while the line is high `IRQ_LATCH(i)` is
enabled at once after the clear; with the line lowered first, the clear leaves nothing to latch. -/
def Obligations.ClearedFlagReturnsOnlyByLatchOrWrite : Prop :=
  (∀ (s : State) (i : IrqNum), s.wf = true → i.toNat < s.nIrq →
    ∃ t, exec (.ipWrite i 0) s = .next t ∧ t.ip.getD i.toNat false = false ∧
      (s.irqIn i = true → ∃ u, exec (.irqLatch i) t = .next u ∧ u.ip.getD i.toNat false = true)) ∧
  (∀ (s : State) (i : IrqNum), s.wf = true → i.toNat < s.nIrq → i ≠ 7 →
    ∃ t u, exec (.lineLow i) s = .next t ∧ exec (.ipWrite i 0) t = .next u ∧ u.ip.getD i.toNat false = false ∧
      noNext (exec (.irqLatch i) u)) ∧
  (∀ (s t : State) (op : Instr) (i : IrqNum), exec op s = .next t → s.ip.getD i.toNat false = false →
    t.ip.getD i.toNat false = true → op = .irqLatch i ∨ ∃ v : Byte, op = .ipWrite i v ∧ v.getLsbD 0 = true)

/-- R230: a handler for `i` that returns with `IP[i]` and `IE[i]` still 1, under `GIE = 1`, leaves `i` takeable again. The stack
is one that taking and reporting can have built (`StepKeepsServiceOrder`). -/
def Obligations.UnclearedSourceIsTakenAgain : Prop :=
  ∀ (s : State) (i : IrqNum) (rest : List SvcEntry), s.wf = true → s.serviceOrdered = true → s.svc = .irq i :: rest →
    s.gie = true → s.ie.getD i.toNat false = true → s.ip.getD i.toNat false = true →
    ∃ t, exec .trapReturn s = .next t ∧ t.takeable i = true ∧ t.trapReq = true

/-! ## The decoder -/

/-- R162: `FROM_IRQ` and `TO_IRQ` are inverse to each other over the 13 known sources and the 13 known numbers, the numbers
are pairwise different, and `FROM_IRQ` is `Unknown` exactly off them. -/
def Obligations.SourcesAndNumbersAreABijection : Prop :=
  (∀ src : Source, src ≠ .unknown → ∃ n, toIrq src = some n ∧ fromIrq n = src) ∧
  (∀ n ∈ ([3, 7, 11, 31, 43, 45, 46, 48, 50, 52, 53, 54, 60] : List Word), toIrq (fromIrq n) = some n) ∧
  (∀ (a b : Source) (n : Word), toIrq a = some n → toIrq b = some n → a = b) ∧
  (∀ n : Word, fromIrq n = .unknown ↔ n ∉ ([3, 7, 11, 31, 43, 45, 46, 48, 50, 52, 53, 54, 60] : List Word)) ∧
  toIrq .unknown = none

/-- `FROM_IRQ n` answers the source whose number `n` is, and `Unknown` for every other number (R160). -/
def Obligations.FromIrqNamesTheSource : Prop :=
  ∀ (n : Word) (s : State),
    (∀ row ∈ sourceRows, n = row.2.2.2 →
      exec (.fromIrq n) s = .next { s with resp := .source row.2.2.1, xfer := .stay }) ∧
    ((∀ row ∈ sourceRows, n ≠ row.2.2.2) → exec (.fromIrq n) s = .next { s with resp := .source .unknown, xfer := .stay })

/-- `TO_IRQ src` answers `valid = 1` and the number of a known source, and `valid = 0` with any number for `Unknown`
(R161; the free value is log 6). -/
def Obligations.ToIrqGivesTheNumber : Prop :=
  ∀ s : State,
    (∀ row ∈ sourceRows,
      exec (.toIrq row.2.2.1) s = .next { s with resp := .irqNumber true row.2.2.2, xfer := .stay }) ∧
    exec (.toIrq .unknown) s
      = .next { s with resp := .irqNumber false (Config.freeIrq s.freeCount), xfer := .stay, freeCount := s.freeCount + 1 }

/-- `DECODE w` (R163): an exception, and an interrupt of no known source, go to the exception path; every other word goes to
the handler of its source. All 31 code bits count. -/
def Obligations.DecodeSelectsThePath : Prop :=
  ∀ (w : Word) (s : State),
    (w.getLsbD 31 = false → exec (.decodeCause w) s = .next { s with resp := .decoded .exceptionPath .unknown, xfer := .stay }) ∧
    (w.getLsbD 31 = true → fromIrq (w &&& 0x7FFFFFFF#32) = .unknown →
      exec (.decodeCause w) s = .next { s with resp := .decoded .exceptionPath .unknown, xfer := .stay }) ∧
    (w.getLsbD 31 = true → fromIrq (w &&& 0x7FFFFFFF#32) ≠ .unknown →
      exec (.decodeCause w) s
        = .next { s with resp := .decoded .handler (fromIrq (w &&& 0x7FFFFFFF#32)), xfer := .stay })

/-- R166: the decoder's answer for a word is the same in every state, and it changes no register. -/
def Obligations.DecoderDependsOnItsInputOnly : Prop :=
  ∀ (s s' : State) (op : Instr),
    ((∃ n, op = .fromIrq n) ∨ (∃ src, op = .toIrq src ∧ src ≠ .unknown) ∨ (∃ w, op = .decodeCause w) ∨ op.format = .c) →
    ∃ t t', exec op s = .next t ∧ exec op s' = .next t' ∧ t.resp = t'.resp ∧ s.sameRegisters t ∧ s'.sameRegisters t'

/-- The answer for each row of R76: the class, and what R163 makes of it. -/
def Obligations.CauseRowsAnswerTheirClass : Prop :=
  ∀ s : State,
    (∀ code : BitVec 31, exec (.causeException code) s
      = .next { s with resp := .classified .exception .exceptionPath .unknown, xfer := .stay }) ∧
    (∀ row ∈ sourceRows, exec row.1 s
      = .next { s with resp := .classified row.2.1 .handler row.2.2.1, xfer := .stay }) ∧
    (∀ code : BitVec 31, (∀ row ∈ sourceRows, code.setWidth 32 ≠ row.2.2.2) → exec (.causeUnknownIrq code) s
      = .next { s with resp := .classified .unknownIrq .exceptionPath .unknown, xfer := .stay })

/-- The threshold of R164 changes no outcome: of the codes below 16 exactly 3, 7 and 11 reach a handler. -/
def Obligations.CodesBelowThresholdReachThreeHandlers : Prop :=
  ∀ w : Word, w.getLsbD 31 = true → (w &&& 0x7FFFFFFF#32).toNat < 16 →
    ((decodeTrapCause w).1 = .handler ↔
      w = 0x80000003#32 ∨ w = 0x80000007#32 ∨ w = 0x8000000B#32)

/-! ## Software operations -/

/-- `enable_interrupt`, `disable_interrupt` and `clear_interrupt` of a known source are one bank write of 1, 0 and 0 at that
source's entry, touching no other byte; of `Unknown` they panic before any bus access (R180 to R182). That an enable is also
remembered for R253, in `boot`, is the model's own (log 21). -/
def Obligations.InterruptOperationsAreOneBankWrite : Prop :=
  (∀ (s : State), s.wf = true → ∀ row ∈ sourceRows,
    let irq := row.2.2.2
    (∃ t, exec (.enableInterrupt row.2.2.1) s = .next t ∧
      t = State.onlyAnswered { s with ie := s.ie.set irq.toNat true, boot := s.boot.afterEnable true } false ∧
      t.byteAt (0x02800400 + irq.toNat) = some 1 ∧ (∀ a, a ≠ 0x02800400 + irq.toNat → t.byteAt a = s.byteAt a)) ∧
    (∃ t, exec (.disableInterrupt row.2.2.1) s = .next t ∧
      t = State.onlyAnswered { s with ie := s.ie.set irq.toNat false } false ∧
      t.byteAt (0x02800400 + irq.toNat) = some 0 ∧ (∀ a, a ≠ 0x02800400 + irq.toNat → t.byteAt a = s.byteAt a)) ∧
    (∃ t, exec (.clearInterrupt row.2.2.1) s = .next t ∧
      t = State.onlyAnswered { s with ip := s.ip.set irq.toNat false } false ∧
      t.byteAt (0x02800000 + irq.toNat) = some 0 ∧ (∀ a, a ≠ 0x02800000 + irq.toNat → t.byteAt a = s.byteAt a))) ∧
  (∀ s : State,
    exec (.enableInterrupt .unknown) s = .fault .panicUnknownHasNoIrq ∧
    exec (.disableInterrupt .unknown) s = .fault .panicUnknownHasNoIrq ∧
    exec (.clearInterrupt .unknown) s = .fault .panicUnknownHasNoIrq)

/-- R183: `try_new` yields an instance with the frequency exactly when `F_TICK` is present, and writes no state of the
block; while it is absent there is no instance to call a time operation on. -/
def Obligations.TryNewReportsTheTimeBase : Prop :=
  (∀ s : State, exec .tryNew s = .next { s with resp := .timeBase s.cfg.fTick, xfer := .stay }) ∧
  (∀ (s : State) (delay : DWord), s.cfg.fTick = none →
    noNext (exec .getTicks s) ∧ noNext (exec .getTimeMs s) ∧ noNext (exec .getTimeUs s) ∧
    noNext (exec (.setTimecmp delay) s))

/-- `get_ticks`, `get_time_ms` and `get_time_us` (R184 to R187): the counter, and the counter divided by the truncated scale;
a zero scale is `DivideByZero`. Without a time base there is nothing to call (R183; the refusal is log 15). -/
def Obligations.TimeReadingsScaleTheCounter : Prop :=
  (∀ (s : State) (f : Nat), s.cfg.fTick = some f →
    exec .getTicks s = .next { s with resp := .time s.mtime, xfer := .stay } ∧
    (1000 ≤ f → exec .getTimeMs s
      = .next { s with resp := .time (BitVec.ofNat 64 (s.mtime.toNat / (f / 1000))), xfer := .stay }) ∧
    (f < 1000 → exec .getTimeMs s = .fault .divideByZero) ∧
    (1000000 ≤ f → exec .getTimeUs s
      = .next { s with resp := .time (BitVec.ofNat 64 (s.mtime.toNat / (f / 1000000))), xfer := .stay }) ∧
    (f < 1000000 → exec .getTimeUs s = .fault .divideByZero)) ∧
  (∀ s : State, s.cfg.fTick = none →
    exec .getTicks s = .refused .noTimeBase ∧ exec .getTimeMs s = .refused .noTimeBase ∧
    exec .getTimeUs s = .refused .noTimeBase)

/-- `set_timecmp delay` (R188): its first transaction reads the counter and its second, when the call is resumed, writes
`now + delay` modulo `2^64` with the `now` of the first, whatever fell between; uninterrupted, the compare register ends at
`MTIME + delay`. The resumable form is the model's (log 14). -/
def Obligations.SetTimecmpWritesNowPlusDelay : Prop :=
  (∀ (s : State) (f : Nat) (delay : DWord), s.cfg.fTick = some f →
    exec (.setTimecmp delay) s
      = .next { s with resp := .mmio s.mtime false, xfer := .stay, calls := [.mtimecmpWrite (s.mtime + delay)] :: s.calls }) ∧
  (∀ (s : State) (v : DWord) (outer : List (List Instr)) (rest : List Turn),
    s.calls = [.mtimecmpWrite v] :: outer → s.agenda = .resume :: rest →
    step s = .next (State.onlyAnswered { s with calls := outer, agenda := rest, mtimecmp := v } false)) ∧
  (∀ (s : State) (f : Nat) (delay : DWord) (rest : List Turn), s.cfg.fTick = some f →
    s.agenda = .request (.call (.setTimecmp delay)) :: .resume :: rest →
    ∃ t, runSteps 2 s = .next t ∧ t.mtimecmp = s.mtime + delay ∧ t.calls = s.calls ∧ t.agenda = rest ∧
      t.mtime = s.mtime ∧ t.ie = s.ie ∧ t.ip = s.ip ∧ t.gie = s.gie ∧ t.svc = s.svc ∧ t.cause = s.cause ∧ t.tvec = s.tvec)

/-- `setup_interrupts entry` (R189, R254), called while software has not called it before and has enabled no line: its first
step clears `GIE`; carried to its end with nothing between, in `2 N_IRQ + 3` port steps, it leaves `TVEC` at the entry, `GIE` set,
both banks zero, and everything else as it was; and no interrupt could be taken after any of its steps but the last. Called
otherwise it is refused, as R253 and U8 ask of a model. How the model knows (`boot`) is log 21, and the resumable form of the
sequence is log 14. -/
def Obligations.SetupInterruptsLeavesTheBanksClear : Prop :=
  (∀ (s : State) (entry : Word), s.boot = .fresh → ∃ t, exec (.setupInterrupts entry) s = .next t ∧ t.gie = false ∧
    t = { s with gie := false, boot := .setUp, resp := .sideband 0, xfer := .stay, calls := t.calls } ∧
    ∃ todo, t.calls = todo :: s.calls ∧ todo.length = 2 * s.nIrq + 2) ∧
  (∀ (s : State) (entry : Word), s.boot ≠ .fresh → exec (.setupInterrupts entry) s = .refused .setupNotFirst) ∧
  (∀ (s : State) (entry : Word) (rest : List Turn), s.wf = true → s.boot = .fresh → entry.extractLsb' 0 2 = 0#2 →
    s.agenda = .request (.call (.setupInterrupts entry)) :: (List.replicate (2 * s.nIrq + 2) .resume ++ rest) →
    (∃ t, runSteps (2 * s.nIrq + 3) s = .next t ∧
      t.tvec = entry ∧ t.gie = true ∧ t.ie = List.replicate s.nIrq false ∧ t.ip = List.replicate s.nIrq false ∧
      t.svc = s.svc ∧ t.cause = s.cause ∧ t.mtime = s.mtime ∧ t.mtimecmp = s.mtimecmp ∧ t.lines = s.lines ∧
      t.calls = s.calls ∧ t.agenda = rest ∧ t.cfg = s.cfg ∧ t.boot = .setUp ∧
      (s.calls.any midSetup = false → t.setupEnded = true)) ∧
    (∀ k, 1 ≤ k → k ≤ 2 * s.nIrq + 2 → ∃ u, runSteps k s = .next u ∧ ∀ i, u.takeable i = false))

/-- R253's "exactly once" and U8: after a call of `setup_interrupts` that ran, and after a line was enabled, by a bank write or
by `enable_interrupt`, every call of `setup_interrupts` is refused, however many steps of whatever kind later. The phase that
remembers it is the model's own (log 21). -/
def Obligations.SetupRunsAtMostOnceAndBeforeEnables : Prop :=
  (∀ (s t : State) (op : Instr), exec op s = .next t →
    (∃ entry, op = .setupInterrupts entry) ∨ (∃ i v, op = .ieWrite i v ∧ i.toNat < s.nIrq ∧ v.getLsbD 0 = true) ∨
      (∃ src, op = .enableInterrupt src) →
    ∀ (k : Nat) (u : State) (entry : Word), runSteps k t = .next u →
      exec (.setupInterrupts entry) u = .refused .setupNotFirst) ∧
  (∀ (s t : State) (op : Instr), exec op s = .next t → s.boot = .fresh → t.boot ≠ .fresh →
    (∃ entry, op = .setupInterrupts entry) ∨ (∃ i v, op = .ieWrite i v ∧ i.toNat < s.nIrq ∧ v.getLsbD 0 = true) ∨
      (∃ src, op = .enableInterrupt src))

/-- `dispatch` (R190): reads `CAUSE`, calls exactly the handler `DECODE` selects (R165), writes no register, and, resumed when
the handler returns, issues `TRAP_RETURN`. That one step reads, decodes and calls, and that the `TRAP_RETURN` waits in `calls`
for a `resume` turn, is the model's form of the sequence (log 14). -/
def Obligations.DispatchCallsTheSelectedHandler : Prop :=
  (∀ s : State, exec .dispatch s
    = .next { s with
        resp := .sideband s.cause, calls := [.trapReturn] :: s.calls,
        xfer := .handlerCall (if (decodeTrapCause s.cause).1 = .handler then .ofSource (decodeTrapCause s.cause).2
          else .exceptionHandler) }) ∧
  (∀ (s : State) (e : SvcEntry) (below : List SvcEntry) (outer : List (List Instr)) (rest : List Turn),
    s.calls = [.trapReturn] :: outer → s.agenda = .resume :: rest → s.svc = e :: below →
    step s = .next { s with calls := outer, agenda := rest, svc := below, resp := .sideband 0, xfer := .trapReturn })

/-- The document's software never meets a `BusError`: neither in the first operation of a sequence, in any state, nor in a
resumed one, in a state a run can reach (R49, R180, R189: "it is never raised by the sequences"). -/
def Obligations.SoftwareNeverMeetsABusError : Prop :=
  (∀ (op : Instr) (s t : State), op.format = .pseudo → exec op s = .next t → t.busFault = false) ∧
  (∀ (s t : State) (rest : List Turn), s.wf = true → s.agenda = .resume :: rest → step s = .next t → t.busFault = false)

/-! ## Reset and invariants -/

/-- R34: after reset `GIE` is 0 and `SVC` is empty, for every block; every other register holds a free draw of its width. -/
def Obligations.ResetClearsGieAndService : Prop :=
  ∀ (p : Config.Params) (d : ResetDraw),
    (State.resetWith p d).gie = false ∧ (State.resetWith p d).svc = [] ∧
    (State.resetWith p d).mtime = d.mtime ∧ (State.resetWith p d).mtimecmp = d.mtimecmp ∧
    (State.resetWith p d).cause = d.cause ∧ (State.resetWith p d).tvec = d.tvec ∧
    (∀ i, i < p.nIrq → (State.resetWith p d).ie.getD i false = d.ie.getD i false ∧
      (State.resetWith p d).ip.getD i false = d.ip.getD i false) ∧
    (∀ i : IrqNum, noNext (exec (.irqTake i) (State.resetWith p d)))

/-- The invariants hold after reset, for every block and every draw; `State.reset`, the draw the model names (log 7), also
has a cause in range. -/
def Obligations.ResetMeetsTheInvariants : Prop :=
  (∀ (p : Config.Params) (d : ResetDraw),
    (State.resetWith p d).wf = true ∧ (State.resetWith p d).serviceOrdered = true) ∧
  State.reset.wf = true ∧ State.reset.causeInRange = true

/-- Every step keeps the form of the state: each bank and the lines keep one entry for each of the `N_IRQ` numbers, `SVC` holds
lines of the block, and a call in progress holds operations the block accepts (R10 to R12, R20). -/
def Obligations.StepKeepsTheStateWellFormed : Prop :=
  ∀ s t : State, s.wf = true → step s = .next t → t.wf = true

/-- Every step keeps the order of the service stack: an interrupt stands only on nothing, or, under `NESTING`, on an entry it
preempts (R20, R222, R231). -/
def Obligations.StepKeepsServiceOrder : Prop :=
  ∀ s t : State, s.serviceOrdered = true → step s = .next t → t.serviceOrdered = true

/-- R20's bound: with `NESTING = false` an ordered stack holds at most one interrupt, and it is the entry taken from `Idle`,
at the bottom. -/
def Obligations.AtMostOneInterruptWithoutNesting : Prop :=
  ∀ s : State, s.serviceOrdered = true → s.cfg.nesting = false →
    s.svc.countP SvcEntry.isIrq ≤ 1 ∧ s.svc.dropLast.all (fun e => e == .exc) = true

/-- R167: once `CAUSE` holds a word the block can have put there, every step keeps it so; a taken interrupt's code is its
number, below `N_IRQ`. -/
def Obligations.StepKeepsTheCauseInRange : Prop :=
  ∀ s t : State, s.causeInRange = true → step s = .next t → t.causeInRange = true

/-- R143: once `TVEC` holds direct mode no step leaves it, so a trap taken after the first `TVEC_WRITE` has a target: taking
an interrupt that is takeable always completes. -/
def Obligations.DirectModeStays : Prop :=
  (∀ s t : State, modeIsDirect s.tvec = true → step s = .next t → modeIsDirect t.tvec = true) ∧
  (∀ (s : State) (i : IrqNum), modeIsDirect s.tvec = true → s.takeable i = true → ∃ t, exec (.irqTake i) s = .next t)

/-- The "written by" column of spec/10_state.md section 1, for every operation: a register that differs afterwards was written
by one of its writers. The parameters and the agenda have none; the phase `boot` is the model's own (log 21). -/
def Obligations.RegistersHaveTheirWriters : Prop :=
  ∀ (op : Instr) (s t : State), exec op s = .next t →
    t.cfg = s.cfg ∧ t.agenda = s.agenda ∧
    (t.ie = s.ie ∨ (∃ i v, op = .ieWrite i v) ∨ (∃ src, op = .enableInterrupt src) ∨ ∃ src, op = .disableInterrupt src) ∧
    (t.ip = s.ip ∨ (∃ i v, op = .ipWrite i v) ∨ (∃ i, op = .irqLatch i) ∨ ∃ src, op = .clearInterrupt src) ∧
    (t.mtime = s.mtime ∨ op = .tick) ∧
    (t.mtimecmp = s.mtimecmp ∨ ∃ v, op = .mtimecmpWrite v) ∧
    (t.cause = s.cause ∨ (∃ i, op = .irqTake i) ∨ ∃ code, op = .excReport code) ∧
    (t.tvec = s.tvec ∨ ∃ w, op = .tvecWrite w) ∧
    (t.gie = s.gie ∨ op = .gieSet ∨ op = .gieClear ∨ ∃ e, op = .setupInterrupts e) ∧
    (t.svc = s.svc ∨ (∃ i, op = .irqTake i) ∨ (∃ code, op = .excReport code) ∨ op = .trapReturn) ∧
    (t.lines = s.lines ∨ (∃ i, op = .lineHigh i) ∨ ∃ i, op = .lineLow i) ∧
    (t.boot = s.boot ∨ (∃ i v, op = .ieWrite i v ∧ v.getLsbD 0 = true) ∨ (∃ src, op = .enableInterrupt src) ∨
      ∃ e, op = .setupInterrupts e)

/-- The frame of every operation over the register map: every byte outside those it stores to reads as before, and an operation
that stores nothing leaves every byte (R42, R48, R52, R104). -/
def Obligations.BytesOutsideTheStoredOnesAreUnchanged : Prop :=
  ∀ (op : Instr) (s t : State), exec op s = .next t →
    ∀ a, ¬ ((storedBytes op).1 ≤ a ∧ a < (storedBytes op).1 + (storedBytes op).2) → t.byteAt a = s.byteAt a
end

