-- ==== Sys2Proof/Laws/Params.lean ====
section
/-! SUPPORT. What the type of the parameters already says: the bounds of `N_IRQ` (R7), and that `PREEMPTS` is irreflexive and
transitive (R231). -/
namespace Sys2Proof
namespace Config

theorem Params.nIrq_lower (p : Params) : 61 ≤ p.nIrq := by unfold Params.nIrq; omega

theorem Params.nIrq_upper (p : Params) : p.nIrq ≤ 1024 := by
  have := p.nIrqExtra.isLt
  unfold Params.nIrq
  omega

theorem Params.preempts_irrefl (p : Params) (a : SvcEntry) : p.preempts a a = false := by
  cases h : p.preempts a a with
  | false => rfl
  | true =>
    simp only [Params.preempts, Params.preemptsLegal, Bool.and_eq_true, List.all_eq_true, List.contains_iff_mem] at h
    obtain ⟨⟨hirr, -⟩, hmem⟩ := h
    simpa using hirr _ hmem

theorem Params.preempts_trans (p : Params) {a b c : SvcEntry} (hab : p.preempts a b = true) (hbc : p.preempts b c = true) :
    p.preempts a c = true := by
  simp only [Params.preempts, Params.preemptsLegal, Bool.and_eq_true, List.all_eq_true, List.contains_iff_mem] at *
  obtain ⟨⟨hirr, htr⟩, hmem⟩ := hab
  refine ⟨⟨hirr, htr⟩, ?_⟩
  simpa using htr _ hmem _ hbc.2

end Config
end Sys2Proof
end

