-- ==== Sys2Proof/Laws/State.lean ====
section
/-! SUPPORT. What each update of the state does to each field, so that no later proof unfolds an update, and the fields of the
state after reset. -/
namespace Sys2Proof
namespace Machine

@[simp] theorem State.answerRead_eq (s : State) (v : DWord) : s.answerRead v = s.reply (.mmio v false) := rfl
@[simp] theorem State.answerWrite_eq (s : State) : s.answerWrite = s.answerFree false := rfl
@[simp] theorem State.answerBusError_eq (s : State) : s.answerBusError = s.answerFree true := rfl
@[simp] theorem State.nIrq_eq (s : State) : s.nIrq = s.cfg.nIrq := rfl

@[simp] theorem State.reply_cfg (s : State) (r : Response) : (s.reply r).cfg = s.cfg := rfl
@[simp] theorem State.reply_ie (s : State) (r : Response) : (s.reply r).ie = s.ie := rfl
@[simp] theorem State.reply_ip (s : State) (r : Response) : (s.reply r).ip = s.ip := rfl
@[simp] theorem State.reply_mtime (s : State) (r : Response) : (s.reply r).mtime = s.mtime := rfl
@[simp] theorem State.reply_mtimecmp (s : State) (r : Response) : (s.reply r).mtimecmp = s.mtimecmp := rfl
@[simp] theorem State.reply_cause (s : State) (r : Response) : (s.reply r).cause = s.cause := rfl
@[simp] theorem State.reply_tvec (s : State) (r : Response) : (s.reply r).tvec = s.tvec := rfl
@[simp] theorem State.reply_gie (s : State) (r : Response) : (s.reply r).gie = s.gie := rfl
@[simp] theorem State.reply_svc (s : State) (r : Response) : (s.reply r).svc = s.svc := rfl
@[simp] theorem State.reply_lines (s : State) (r : Response) : (s.reply r).lines = s.lines := rfl
@[simp] theorem State.reply_calls (s : State) (r : Response) : (s.reply r).calls = s.calls := rfl
@[simp] theorem State.reply_resp (s : State) (r : Response) : (s.reply r).resp = r := rfl
@[simp] theorem State.reply_xfer (s : State) (r : Response) : (s.reply r).xfer = .stay := rfl
@[simp] theorem State.reply_agenda (s : State) (r : Response) : (s.reply r).agenda = s.agenda := rfl
@[simp] theorem State.reply_freeCount (s : State) (r : Response) : (s.reply r).freeCount = s.freeCount := rfl
@[simp] theorem State.reply_boot (s : State) (r : Response) : (s.reply r).boot = s.boot := rfl

@[simp] theorem State.answerFree_cfg (s : State) (e : Bool) : (s.answerFree e).cfg = s.cfg := rfl
@[simp] theorem State.answerFree_ie (s : State) (e : Bool) : (s.answerFree e).ie = s.ie := rfl
@[simp] theorem State.answerFree_ip (s : State) (e : Bool) : (s.answerFree e).ip = s.ip := rfl
@[simp] theorem State.answerFree_mtime (s : State) (e : Bool) : (s.answerFree e).mtime = s.mtime := rfl
@[simp] theorem State.answerFree_mtimecmp (s : State) (e : Bool) : (s.answerFree e).mtimecmp = s.mtimecmp := rfl
@[simp] theorem State.answerFree_cause (s : State) (e : Bool) : (s.answerFree e).cause = s.cause := rfl
@[simp] theorem State.answerFree_tvec (s : State) (e : Bool) : (s.answerFree e).tvec = s.tvec := rfl
@[simp] theorem State.answerFree_gie (s : State) (e : Bool) : (s.answerFree e).gie = s.gie := rfl
@[simp] theorem State.answerFree_svc (s : State) (e : Bool) : (s.answerFree e).svc = s.svc := rfl
@[simp] theorem State.answerFree_lines (s : State) (e : Bool) : (s.answerFree e).lines = s.lines := rfl
@[simp] theorem State.answerFree_calls (s : State) (e : Bool) : (s.answerFree e).calls = s.calls := rfl
@[simp] theorem State.answerFree_resp (s : State) (e : Bool) : (s.answerFree e).resp = .mmio (Config.freeRdata s.freeCount) e := rfl
@[simp] theorem State.answerFree_xfer (s : State) (e : Bool) : (s.answerFree e).xfer = .stay := rfl
@[simp] theorem State.answerFree_agenda (s : State) (e : Bool) : (s.answerFree e).agenda = s.agenda := rfl
@[simp] theorem State.answerFree_freeCount (s : State) (e : Bool) : (s.answerFree e).freeCount = s.freeCount + 1 := rfl
@[simp] theorem State.answerFree_boot (s : State) (e : Bool) : (s.answerFree e).boot = s.boot := rfl

@[simp] theorem State.writeIp_cfg (s : State) (i : IrqNum) (v : Byte) : (s.writeIp i v).cfg = s.cfg := rfl
@[simp] theorem State.writeIp_ie (s : State) (i : IrqNum) (v : Byte) : (s.writeIp i v).ie = s.ie := rfl
@[simp] theorem State.writeIp_ip (s : State) (i : IrqNum) (v : Byte) : (s.writeIp i v).ip = bankWrite s.ip i.toNat v := rfl
@[simp] theorem State.writeIp_mtime (s : State) (i : IrqNum) (v : Byte) : (s.writeIp i v).mtime = s.mtime := rfl
@[simp] theorem State.writeIp_mtimecmp (s : State) (i : IrqNum) (v : Byte) : (s.writeIp i v).mtimecmp = s.mtimecmp := rfl
@[simp] theorem State.writeIp_cause (s : State) (i : IrqNum) (v : Byte) : (s.writeIp i v).cause = s.cause := rfl
@[simp] theorem State.writeIp_tvec (s : State) (i : IrqNum) (v : Byte) : (s.writeIp i v).tvec = s.tvec := rfl
@[simp] theorem State.writeIp_gie (s : State) (i : IrqNum) (v : Byte) : (s.writeIp i v).gie = s.gie := rfl
@[simp] theorem State.writeIp_svc (s : State) (i : IrqNum) (v : Byte) : (s.writeIp i v).svc = s.svc := rfl
@[simp] theorem State.writeIp_lines (s : State) (i : IrqNum) (v : Byte) : (s.writeIp i v).lines = s.lines := rfl
@[simp] theorem State.writeIp_calls (s : State) (i : IrqNum) (v : Byte) : (s.writeIp i v).calls = s.calls := rfl
@[simp] theorem State.writeIp_resp (s : State) (i : IrqNum) (v : Byte) : (s.writeIp i v).resp = s.resp := rfl
@[simp] theorem State.writeIp_xfer (s : State) (i : IrqNum) (v : Byte) : (s.writeIp i v).xfer = s.xfer := rfl
@[simp] theorem State.writeIp_agenda (s : State) (i : IrqNum) (v : Byte) : (s.writeIp i v).agenda = s.agenda := rfl
@[simp] theorem State.writeIp_freeCount (s : State) (i : IrqNum) (v : Byte) : (s.writeIp i v).freeCount = s.freeCount := rfl
@[simp] theorem State.writeIp_boot (s : State) (i : IrqNum) (v : Byte) : (s.writeIp i v).boot = s.boot := rfl

@[simp] theorem State.writeIe_cfg (s : State) (i : IrqNum) (v : Byte) : (s.writeIe i v).cfg = s.cfg := rfl
@[simp] theorem State.writeIe_ie (s : State) (i : IrqNum) (v : Byte) : (s.writeIe i v).ie = bankWrite s.ie i.toNat v := rfl
@[simp] theorem State.writeIe_ip (s : State) (i : IrqNum) (v : Byte) : (s.writeIe i v).ip = s.ip := rfl
@[simp] theorem State.writeIe_mtime (s : State) (i : IrqNum) (v : Byte) : (s.writeIe i v).mtime = s.mtime := rfl
@[simp] theorem State.writeIe_mtimecmp (s : State) (i : IrqNum) (v : Byte) : (s.writeIe i v).mtimecmp = s.mtimecmp := rfl
@[simp] theorem State.writeIe_cause (s : State) (i : IrqNum) (v : Byte) : (s.writeIe i v).cause = s.cause := rfl
@[simp] theorem State.writeIe_tvec (s : State) (i : IrqNum) (v : Byte) : (s.writeIe i v).tvec = s.tvec := rfl
@[simp] theorem State.writeIe_gie (s : State) (i : IrqNum) (v : Byte) : (s.writeIe i v).gie = s.gie := rfl
@[simp] theorem State.writeIe_svc (s : State) (i : IrqNum) (v : Byte) : (s.writeIe i v).svc = s.svc := rfl
@[simp] theorem State.writeIe_lines (s : State) (i : IrqNum) (v : Byte) : (s.writeIe i v).lines = s.lines := rfl
@[simp] theorem State.writeIe_calls (s : State) (i : IrqNum) (v : Byte) : (s.writeIe i v).calls = s.calls := rfl
@[simp] theorem State.writeIe_resp (s : State) (i : IrqNum) (v : Byte) : (s.writeIe i v).resp = s.resp := rfl
@[simp] theorem State.writeIe_xfer (s : State) (i : IrqNum) (v : Byte) : (s.writeIe i v).xfer = s.xfer := rfl
@[simp] theorem State.writeIe_agenda (s : State) (i : IrqNum) (v : Byte) : (s.writeIe i v).agenda = s.agenda := rfl
@[simp] theorem State.writeIe_freeCount (s : State) (i : IrqNum) (v : Byte) : (s.writeIe i v).freeCount = s.freeCount := rfl
@[simp] theorem State.writeIe_boot (s : State) (i : IrqNum) (v : Byte) : (s.writeIe i v).boot = s.boot.afterEnable (v.getLsbD 0) := rfl

@[simp] theorem State.latchIp_cfg (s : State) (i : IrqNum) : (s.latchIp i).cfg = s.cfg := rfl
@[simp] theorem State.latchIp_ie (s : State) (i : IrqNum) : (s.latchIp i).ie = s.ie := rfl
@[simp] theorem State.latchIp_ip (s : State) (i : IrqNum) : (s.latchIp i).ip = s.ip.set i.toNat true := rfl
@[simp] theorem State.latchIp_mtime (s : State) (i : IrqNum) : (s.latchIp i).mtime = s.mtime := rfl
@[simp] theorem State.latchIp_mtimecmp (s : State) (i : IrqNum) : (s.latchIp i).mtimecmp = s.mtimecmp := rfl
@[simp] theorem State.latchIp_cause (s : State) (i : IrqNum) : (s.latchIp i).cause = s.cause := rfl
@[simp] theorem State.latchIp_tvec (s : State) (i : IrqNum) : (s.latchIp i).tvec = s.tvec := rfl
@[simp] theorem State.latchIp_gie (s : State) (i : IrqNum) : (s.latchIp i).gie = s.gie := rfl
@[simp] theorem State.latchIp_svc (s : State) (i : IrqNum) : (s.latchIp i).svc = s.svc := rfl
@[simp] theorem State.latchIp_lines (s : State) (i : IrqNum) : (s.latchIp i).lines = s.lines := rfl
@[simp] theorem State.latchIp_calls (s : State) (i : IrqNum) : (s.latchIp i).calls = s.calls := rfl
@[simp] theorem State.latchIp_resp (s : State) (i : IrqNum) : (s.latchIp i).resp = s.resp := rfl
@[simp] theorem State.latchIp_xfer (s : State) (i : IrqNum) : (s.latchIp i).xfer = s.xfer := rfl
@[simp] theorem State.latchIp_agenda (s : State) (i : IrqNum) : (s.latchIp i).agenda = s.agenda := rfl
@[simp] theorem State.latchIp_freeCount (s : State) (i : IrqNum) : (s.latchIp i).freeCount = s.freeCount := rfl
@[simp] theorem State.latchIp_boot (s : State) (i : IrqNum) : (s.latchIp i).boot = s.boot := rfl

@[simp] theorem State.writeMtimecmp_cfg (s : State) (v : DWord) : (s.writeMtimecmp v).cfg = s.cfg := rfl
@[simp] theorem State.writeMtimecmp_ie (s : State) (v : DWord) : (s.writeMtimecmp v).ie = s.ie := rfl
@[simp] theorem State.writeMtimecmp_ip (s : State) (v : DWord) : (s.writeMtimecmp v).ip = s.ip := rfl
@[simp] theorem State.writeMtimecmp_mtime (s : State) (v : DWord) : (s.writeMtimecmp v).mtime = s.mtime := rfl
@[simp] theorem State.writeMtimecmp_mtimecmp (s : State) (v : DWord) : (s.writeMtimecmp v).mtimecmp = v := rfl
@[simp] theorem State.writeMtimecmp_cause (s : State) (v : DWord) : (s.writeMtimecmp v).cause = s.cause := rfl
@[simp] theorem State.writeMtimecmp_tvec (s : State) (v : DWord) : (s.writeMtimecmp v).tvec = s.tvec := rfl
@[simp] theorem State.writeMtimecmp_gie (s : State) (v : DWord) : (s.writeMtimecmp v).gie = s.gie := rfl
@[simp] theorem State.writeMtimecmp_svc (s : State) (v : DWord) : (s.writeMtimecmp v).svc = s.svc := rfl
@[simp] theorem State.writeMtimecmp_lines (s : State) (v : DWord) : (s.writeMtimecmp v).lines = s.lines := rfl
@[simp] theorem State.writeMtimecmp_calls (s : State) (v : DWord) : (s.writeMtimecmp v).calls = s.calls := rfl
@[simp] theorem State.writeMtimecmp_resp (s : State) (v : DWord) : (s.writeMtimecmp v).resp = s.resp := rfl
@[simp] theorem State.writeMtimecmp_xfer (s : State) (v : DWord) : (s.writeMtimecmp v).xfer = s.xfer := rfl
@[simp] theorem State.writeMtimecmp_agenda (s : State) (v : DWord) : (s.writeMtimecmp v).agenda = s.agenda := rfl
@[simp] theorem State.writeMtimecmp_freeCount (s : State) (v : DWord) : (s.writeMtimecmp v).freeCount = s.freeCount := rfl
@[simp] theorem State.writeMtimecmp_boot (s : State) (v : DWord) : (s.writeMtimecmp v).boot = s.boot := rfl

@[simp] theorem State.advanceMtime_cfg (s : State) : (s.advanceMtime).cfg = s.cfg := rfl
@[simp] theorem State.advanceMtime_ie (s : State) : (s.advanceMtime).ie = s.ie := rfl
@[simp] theorem State.advanceMtime_ip (s : State) : (s.advanceMtime).ip = s.ip := rfl
@[simp] theorem State.advanceMtime_mtime (s : State) : (s.advanceMtime).mtime = s.mtime + 1 := rfl
@[simp] theorem State.advanceMtime_mtimecmp (s : State) : (s.advanceMtime).mtimecmp = s.mtimecmp := rfl
@[simp] theorem State.advanceMtime_cause (s : State) : (s.advanceMtime).cause = s.cause := rfl
@[simp] theorem State.advanceMtime_tvec (s : State) : (s.advanceMtime).tvec = s.tvec := rfl
@[simp] theorem State.advanceMtime_gie (s : State) : (s.advanceMtime).gie = s.gie := rfl
@[simp] theorem State.advanceMtime_svc (s : State) : (s.advanceMtime).svc = s.svc := rfl
@[simp] theorem State.advanceMtime_lines (s : State) : (s.advanceMtime).lines = s.lines := rfl
@[simp] theorem State.advanceMtime_calls (s : State) : (s.advanceMtime).calls = s.calls := rfl
@[simp] theorem State.advanceMtime_resp (s : State) : (s.advanceMtime).resp = s.resp := rfl
@[simp] theorem State.advanceMtime_xfer (s : State) : (s.advanceMtime).xfer = s.xfer := rfl
@[simp] theorem State.advanceMtime_agenda (s : State) : (s.advanceMtime).agenda = s.agenda := rfl
@[simp] theorem State.advanceMtime_freeCount (s : State) : (s.advanceMtime).freeCount = s.freeCount := rfl
@[simp] theorem State.advanceMtime_boot (s : State) : (s.advanceMtime).boot = s.boot := rfl

@[simp] theorem State.writeTvec_cfg (s : State) (w : Word) : (s.writeTvec w).cfg = s.cfg := rfl
@[simp] theorem State.writeTvec_ie (s : State) (w : Word) : (s.writeTvec w).ie = s.ie := rfl
@[simp] theorem State.writeTvec_ip (s : State) (w : Word) : (s.writeTvec w).ip = s.ip := rfl
@[simp] theorem State.writeTvec_mtime (s : State) (w : Word) : (s.writeTvec w).mtime = s.mtime := rfl
@[simp] theorem State.writeTvec_mtimecmp (s : State) (w : Word) : (s.writeTvec w).mtimecmp = s.mtimecmp := rfl
@[simp] theorem State.writeTvec_cause (s : State) (w : Word) : (s.writeTvec w).cause = s.cause := rfl
@[simp] theorem State.writeTvec_tvec (s : State) (w : Word) : (s.writeTvec w).tvec = w := rfl
@[simp] theorem State.writeTvec_gie (s : State) (w : Word) : (s.writeTvec w).gie = s.gie := rfl
@[simp] theorem State.writeTvec_svc (s : State) (w : Word) : (s.writeTvec w).svc = s.svc := rfl
@[simp] theorem State.writeTvec_lines (s : State) (w : Word) : (s.writeTvec w).lines = s.lines := rfl
@[simp] theorem State.writeTvec_calls (s : State) (w : Word) : (s.writeTvec w).calls = s.calls := rfl
@[simp] theorem State.writeTvec_resp (s : State) (w : Word) : (s.writeTvec w).resp = s.resp := rfl
@[simp] theorem State.writeTvec_xfer (s : State) (w : Word) : (s.writeTvec w).xfer = s.xfer := rfl
@[simp] theorem State.writeTvec_agenda (s : State) (w : Word) : (s.writeTvec w).agenda = s.agenda := rfl
@[simp] theorem State.writeTvec_freeCount (s : State) (w : Word) : (s.writeTvec w).freeCount = s.freeCount := rfl
@[simp] theorem State.writeTvec_boot (s : State) (w : Word) : (s.writeTvec w).boot = s.boot := rfl

@[simp] theorem State.writeGie_cfg (s : State) (b : Bool) : (s.writeGie b).cfg = s.cfg := rfl
@[simp] theorem State.writeGie_ie (s : State) (b : Bool) : (s.writeGie b).ie = s.ie := rfl
@[simp] theorem State.writeGie_ip (s : State) (b : Bool) : (s.writeGie b).ip = s.ip := rfl
@[simp] theorem State.writeGie_mtime (s : State) (b : Bool) : (s.writeGie b).mtime = s.mtime := rfl
@[simp] theorem State.writeGie_mtimecmp (s : State) (b : Bool) : (s.writeGie b).mtimecmp = s.mtimecmp := rfl
@[simp] theorem State.writeGie_cause (s : State) (b : Bool) : (s.writeGie b).cause = s.cause := rfl
@[simp] theorem State.writeGie_tvec (s : State) (b : Bool) : (s.writeGie b).tvec = s.tvec := rfl
@[simp] theorem State.writeGie_gie (s : State) (b : Bool) : (s.writeGie b).gie = b := rfl
@[simp] theorem State.writeGie_svc (s : State) (b : Bool) : (s.writeGie b).svc = s.svc := rfl
@[simp] theorem State.writeGie_lines (s : State) (b : Bool) : (s.writeGie b).lines = s.lines := rfl
@[simp] theorem State.writeGie_calls (s : State) (b : Bool) : (s.writeGie b).calls = s.calls := rfl
@[simp] theorem State.writeGie_resp (s : State) (b : Bool) : (s.writeGie b).resp = s.resp := rfl
@[simp] theorem State.writeGie_xfer (s : State) (b : Bool) : (s.writeGie b).xfer = s.xfer := rfl
@[simp] theorem State.writeGie_agenda (s : State) (b : Bool) : (s.writeGie b).agenda = s.agenda := rfl
@[simp] theorem State.writeGie_freeCount (s : State) (b : Bool) : (s.writeGie b).freeCount = s.freeCount := rfl
@[simp] theorem State.writeGie_boot (s : State) (b : Bool) : (s.writeGie b).boot = s.boot := rfl

@[simp] theorem State.writeLine_cfg (s : State) (i : IrqNum) (b : Bool) : (s.writeLine i b).cfg = s.cfg := rfl
@[simp] theorem State.writeLine_ie (s : State) (i : IrqNum) (b : Bool) : (s.writeLine i b).ie = s.ie := rfl
@[simp] theorem State.writeLine_ip (s : State) (i : IrqNum) (b : Bool) : (s.writeLine i b).ip = s.ip := rfl
@[simp] theorem State.writeLine_mtime (s : State) (i : IrqNum) (b : Bool) : (s.writeLine i b).mtime = s.mtime := rfl
@[simp] theorem State.writeLine_mtimecmp (s : State) (i : IrqNum) (b : Bool) : (s.writeLine i b).mtimecmp = s.mtimecmp := rfl
@[simp] theorem State.writeLine_cause (s : State) (i : IrqNum) (b : Bool) : (s.writeLine i b).cause = s.cause := rfl
@[simp] theorem State.writeLine_tvec (s : State) (i : IrqNum) (b : Bool) : (s.writeLine i b).tvec = s.tvec := rfl
@[simp] theorem State.writeLine_gie (s : State) (i : IrqNum) (b : Bool) : (s.writeLine i b).gie = s.gie := rfl
@[simp] theorem State.writeLine_svc (s : State) (i : IrqNum) (b : Bool) : (s.writeLine i b).svc = s.svc := rfl
@[simp] theorem State.writeLine_lines (s : State) (i : IrqNum) (b : Bool) : (s.writeLine i b).lines = s.lines.set i.toNat b := rfl
@[simp] theorem State.writeLine_calls (s : State) (i : IrqNum) (b : Bool) : (s.writeLine i b).calls = s.calls := rfl
@[simp] theorem State.writeLine_resp (s : State) (i : IrqNum) (b : Bool) : (s.writeLine i b).resp = s.resp := rfl
@[simp] theorem State.writeLine_xfer (s : State) (i : IrqNum) (b : Bool) : (s.writeLine i b).xfer = s.xfer := rfl
@[simp] theorem State.writeLine_agenda (s : State) (i : IrqNum) (b : Bool) : (s.writeLine i b).agenda = s.agenda := rfl
@[simp] theorem State.writeLine_freeCount (s : State) (i : IrqNum) (b : Bool) : (s.writeLine i b).freeCount = s.freeCount := rfl
@[simp] theorem State.writeLine_boot (s : State) (i : IrqNum) (b : Bool) : (s.writeLine i b).boot = s.boot := rfl

@[simp] theorem State.enterTrap_cfg (s : State) (w : Word) (e : SvcEntry) : (s.enterTrap w e).cfg = s.cfg := rfl
@[simp] theorem State.enterTrap_ie (s : State) (w : Word) (e : SvcEntry) : (s.enterTrap w e).ie = s.ie := rfl
@[simp] theorem State.enterTrap_ip (s : State) (w : Word) (e : SvcEntry) : (s.enterTrap w e).ip = s.ip := rfl
@[simp] theorem State.enterTrap_mtime (s : State) (w : Word) (e : SvcEntry) : (s.enterTrap w e).mtime = s.mtime := rfl
@[simp] theorem State.enterTrap_mtimecmp (s : State) (w : Word) (e : SvcEntry) : (s.enterTrap w e).mtimecmp = s.mtimecmp := rfl
@[simp] theorem State.enterTrap_cause (s : State) (w : Word) (e : SvcEntry) : (s.enterTrap w e).cause = w := rfl
@[simp] theorem State.enterTrap_tvec (s : State) (w : Word) (e : SvcEntry) : (s.enterTrap w e).tvec = s.tvec := rfl
@[simp] theorem State.enterTrap_gie (s : State) (w : Word) (e : SvcEntry) : (s.enterTrap w e).gie = s.gie := rfl
@[simp] theorem State.enterTrap_svc (s : State) (w : Word) (e : SvcEntry) : (s.enterTrap w e).svc = e :: s.svc := rfl
@[simp] theorem State.enterTrap_lines (s : State) (w : Word) (e : SvcEntry) : (s.enterTrap w e).lines = s.lines := rfl
@[simp] theorem State.enterTrap_calls (s : State) (w : Word) (e : SvcEntry) : (s.enterTrap w e).calls = s.calls := rfl
@[simp] theorem State.enterTrap_resp (s : State) (w : Word) (e : SvcEntry) : (s.enterTrap w e).resp = s.resp := rfl
@[simp] theorem State.enterTrap_xfer (s : State) (w : Word) (e : SvcEntry) : (s.enterTrap w e).xfer = .trapEntry s.trapTarget := rfl
@[simp] theorem State.enterTrap_agenda (s : State) (w : Word) (e : SvcEntry) : (s.enterTrap w e).agenda = s.agenda := rfl
@[simp] theorem State.enterTrap_freeCount (s : State) (w : Word) (e : SvcEntry) : (s.enterTrap w e).freeCount = s.freeCount := rfl
@[simp] theorem State.enterTrap_boot (s : State) (w : Word) (e : SvcEntry) : (s.enterTrap w e).boot = s.boot := rfl

@[simp] theorem State.pushCall_cfg (s : State) (c : List Instr) : (s.pushCall c).cfg = s.cfg := rfl
@[simp] theorem State.pushCall_ie (s : State) (c : List Instr) : (s.pushCall c).ie = s.ie := rfl
@[simp] theorem State.pushCall_ip (s : State) (c : List Instr) : (s.pushCall c).ip = s.ip := rfl
@[simp] theorem State.pushCall_mtime (s : State) (c : List Instr) : (s.pushCall c).mtime = s.mtime := rfl
@[simp] theorem State.pushCall_mtimecmp (s : State) (c : List Instr) : (s.pushCall c).mtimecmp = s.mtimecmp := rfl
@[simp] theorem State.pushCall_cause (s : State) (c : List Instr) : (s.pushCall c).cause = s.cause := rfl
@[simp] theorem State.pushCall_tvec (s : State) (c : List Instr) : (s.pushCall c).tvec = s.tvec := rfl
@[simp] theorem State.pushCall_gie (s : State) (c : List Instr) : (s.pushCall c).gie = s.gie := rfl
@[simp] theorem State.pushCall_svc (s : State) (c : List Instr) : (s.pushCall c).svc = s.svc := rfl
@[simp] theorem State.pushCall_lines (s : State) (c : List Instr) : (s.pushCall c).lines = s.lines := rfl
@[simp] theorem State.pushCall_calls (s : State) (c : List Instr) : (s.pushCall c).calls = c :: s.calls := rfl
@[simp] theorem State.pushCall_resp (s : State) (c : List Instr) : (s.pushCall c).resp = s.resp := rfl
@[simp] theorem State.pushCall_xfer (s : State) (c : List Instr) : (s.pushCall c).xfer = s.xfer := rfl
@[simp] theorem State.pushCall_agenda (s : State) (c : List Instr) : (s.pushCall c).agenda = s.agenda := rfl
@[simp] theorem State.pushCall_freeCount (s : State) (c : List Instr) : (s.pushCall c).freeCount = s.freeCount := rfl
@[simp] theorem State.pushCall_boot (s : State) (c : List Instr) : (s.pushCall c).boot = s.boot := rfl

@[simp] theorem State.startSetup_cfg (s : State) : s.startSetup.cfg = s.cfg := rfl
@[simp] theorem State.startSetup_ie (s : State) : s.startSetup.ie = s.ie := rfl
@[simp] theorem State.startSetup_ip (s : State) : s.startSetup.ip = s.ip := rfl
@[simp] theorem State.startSetup_mtime (s : State) : s.startSetup.mtime = s.mtime := rfl
@[simp] theorem State.startSetup_mtimecmp (s : State) : s.startSetup.mtimecmp = s.mtimecmp := rfl
@[simp] theorem State.startSetup_cause (s : State) : s.startSetup.cause = s.cause := rfl
@[simp] theorem State.startSetup_tvec (s : State) : s.startSetup.tvec = s.tvec := rfl
@[simp] theorem State.startSetup_gie (s : State) : s.startSetup.gie = s.gie := rfl
@[simp] theorem State.startSetup_svc (s : State) : s.startSetup.svc = s.svc := rfl
@[simp] theorem State.startSetup_lines (s : State) : s.startSetup.lines = s.lines := rfl
@[simp] theorem State.startSetup_calls (s : State) : s.startSetup.calls = s.calls := rfl
@[simp] theorem State.startSetup_boot (s : State) : s.startSetup.boot = .setUp := rfl
@[simp] theorem State.startSetup_resp (s : State) : s.startSetup.resp = s.resp := rfl
@[simp] theorem State.startSetup_xfer (s : State) : s.startSetup.xfer = s.xfer := rfl
@[simp] theorem State.startSetup_agenda (s : State) : s.startSetup.agenda = s.agenda := rfl
@[simp] theorem State.startSetup_freeCount (s : State) : s.startSetup.freeCount = s.freeCount := rfl

@[simp] theorem State.callHandler_cfg (s : State) (h : Handler) : (s.callHandler h).cfg = s.cfg := rfl
@[simp] theorem State.callHandler_ie (s : State) (h : Handler) : (s.callHandler h).ie = s.ie := rfl
@[simp] theorem State.callHandler_ip (s : State) (h : Handler) : (s.callHandler h).ip = s.ip := rfl
@[simp] theorem State.callHandler_mtime (s : State) (h : Handler) : (s.callHandler h).mtime = s.mtime := rfl
@[simp] theorem State.callHandler_mtimecmp (s : State) (h : Handler) : (s.callHandler h).mtimecmp = s.mtimecmp := rfl
@[simp] theorem State.callHandler_cause (s : State) (h : Handler) : (s.callHandler h).cause = s.cause := rfl
@[simp] theorem State.callHandler_tvec (s : State) (h : Handler) : (s.callHandler h).tvec = s.tvec := rfl
@[simp] theorem State.callHandler_gie (s : State) (h : Handler) : (s.callHandler h).gie = s.gie := rfl
@[simp] theorem State.callHandler_svc (s : State) (h : Handler) : (s.callHandler h).svc = s.svc := rfl
@[simp] theorem State.callHandler_lines (s : State) (h : Handler) : (s.callHandler h).lines = s.lines := rfl
@[simp] theorem State.callHandler_calls (s : State) (h : Handler) : (s.callHandler h).calls = s.calls := rfl
@[simp] theorem State.callHandler_resp (s : State) (h : Handler) : (s.callHandler h).resp = s.resp := rfl
@[simp] theorem State.callHandler_xfer (s : State) (h : Handler) : (s.callHandler h).xfer = .handlerCall h := rfl
@[simp] theorem State.callHandler_agenda (s : State) (h : Handler) : (s.callHandler h).agenda = s.agenda := rfl
@[simp] theorem State.callHandler_freeCount (s : State) (h : Handler) : (s.callHandler h).freeCount = s.freeCount := rfl
@[simp] theorem State.callHandler_boot (s : State) (h : Handler) : (s.callHandler h).boot = s.boot := rfl

@[simp] theorem State.withAgenda_cfg (s : State) (a : List Turn) : (s.withAgenda a).cfg = s.cfg := rfl
@[simp] theorem State.withAgenda_ie (s : State) (a : List Turn) : (s.withAgenda a).ie = s.ie := rfl
@[simp] theorem State.withAgenda_ip (s : State) (a : List Turn) : (s.withAgenda a).ip = s.ip := rfl
@[simp] theorem State.withAgenda_mtime (s : State) (a : List Turn) : (s.withAgenda a).mtime = s.mtime := rfl
@[simp] theorem State.withAgenda_mtimecmp (s : State) (a : List Turn) : (s.withAgenda a).mtimecmp = s.mtimecmp := rfl
@[simp] theorem State.withAgenda_cause (s : State) (a : List Turn) : (s.withAgenda a).cause = s.cause := rfl
@[simp] theorem State.withAgenda_tvec (s : State) (a : List Turn) : (s.withAgenda a).tvec = s.tvec := rfl
@[simp] theorem State.withAgenda_gie (s : State) (a : List Turn) : (s.withAgenda a).gie = s.gie := rfl
@[simp] theorem State.withAgenda_svc (s : State) (a : List Turn) : (s.withAgenda a).svc = s.svc := rfl
@[simp] theorem State.withAgenda_lines (s : State) (a : List Turn) : (s.withAgenda a).lines = s.lines := rfl
@[simp] theorem State.withAgenda_calls (s : State) (a : List Turn) : (s.withAgenda a).calls = s.calls := rfl
@[simp] theorem State.withAgenda_resp (s : State) (a : List Turn) : (s.withAgenda a).resp = s.resp := rfl
@[simp] theorem State.withAgenda_xfer (s : State) (a : List Turn) : (s.withAgenda a).xfer = s.xfer := rfl
@[simp] theorem State.withAgenda_agenda (s : State) (a : List Turn) : (s.withAgenda a).agenda = a := rfl
@[simp] theorem State.withAgenda_freeCount (s : State) (a : List Turn) : (s.withAgenda a).freeCount = s.freeCount := rfl
@[simp] theorem State.withAgenda_boot (s : State) (a : List Turn) : (s.withAgenda a).boot = s.boot := rfl

@[simp] theorem State.resetWith_cfg (p : Config.Params) (d : ResetDraw) : (State.resetWith p d).cfg = p := rfl
@[simp] theorem State.resetWith_ie (p : Config.Params) (d : ResetDraw) : (State.resetWith p d).ie = bankOf p.nIrq (fun i => d.ie.getD i false) := rfl
@[simp] theorem State.resetWith_ip (p : Config.Params) (d : ResetDraw) : (State.resetWith p d).ip = bankOf p.nIrq (fun i => d.ip.getD i false) := rfl
@[simp] theorem State.resetWith_mtime (p : Config.Params) (d : ResetDraw) : (State.resetWith p d).mtime = d.mtime := rfl
@[simp] theorem State.resetWith_mtimecmp (p : Config.Params) (d : ResetDraw) : (State.resetWith p d).mtimecmp = d.mtimecmp := rfl
@[simp] theorem State.resetWith_cause (p : Config.Params) (d : ResetDraw) : (State.resetWith p d).cause = d.cause := rfl
@[simp] theorem State.resetWith_tvec (p : Config.Params) (d : ResetDraw) : (State.resetWith p d).tvec = d.tvec := rfl
@[simp] theorem State.resetWith_gie (p : Config.Params) (d : ResetDraw) : (State.resetWith p d).gie = false := rfl
@[simp] theorem State.resetWith_svc (p : Config.Params) (d : ResetDraw) : (State.resetWith p d).svc = [] := rfl
@[simp] theorem State.resetWith_lines (p : Config.Params) (d : ResetDraw) : (State.resetWith p d).lines = bankOf p.nIrq (fun i => d.lines.getD i false) := rfl
@[simp] theorem State.resetWith_calls (p : Config.Params) (d : ResetDraw) : (State.resetWith p d).calls = [] := rfl
@[simp] theorem State.resetWith_resp (p : Config.Params) (d : ResetDraw) : (State.resetWith p d).resp = .event := rfl
@[simp] theorem State.resetWith_xfer (p : Config.Params) (d : ResetDraw) : (State.resetWith p d).xfer = .stay := rfl
@[simp] theorem State.resetWith_agenda (p : Config.Params) (d : ResetDraw) : (State.resetWith p d).agenda = [] := rfl
@[simp] theorem State.resetWith_freeCount (p : Config.Params) (d : ResetDraw) : (State.resetWith p d).freeCount = 0 := rfl
@[simp] theorem State.resetWith_boot (p : Config.Params) (d : ResetDraw) : (State.resetWith p d).boot = .fresh := rfl

/-! ## The phases of the initialisation -/

@[simp] theorem Boot.afterEnable_false (b : Boot) : b.afterEnable false = b := rfl

/-- Writing an enable entry never makes the phase fresh, and a 1 ends it. -/
theorem Boot.afterEnable_eq_fresh (b : Boot) (on : Bool) : b.afterEnable on = .fresh ↔ b = .fresh ∧ on = false := by
  cases b <;> cases on <;> decide

end Machine
end Sys2Proof
end

