-- ==== Sys2Proof/Laws/Bank.lean ====
section
/-! SUPPORT. Banks: a write is read back, leaves every other entry alone and keeps the bank's form; the same for the state's
updates. -/
namespace Sys2Proof
namespace Machine

theorem bankFrom_length (f : Nat → Bool) (k n : Nat) : (bankFrom f k n).length = n := by
  induction n generalizing k with
  | zero => rfl
  | succ n ih => simp [bankFrom, ih]

theorem bankFrom_getD (f : Nat → Bool) (k n i : Nat) (h : i < n) : (bankFrom f k n).getD i false = f (k + i) := by
  induction n generalizing k i with
  | zero => omega
  | succ n ih =>
    cases i with
    | zero => rfl
    | succ i => simpa [bankFrom, Nat.add_assoc, Nat.add_comm 1] using ih (k + 1) i (by omega)

@[simp] theorem bankOf_length (n : Nat) (f : Nat → Bool) : (bankOf n f).length = n := bankFrom_length f 0 n

theorem bankOf_getD (n : Nat) (f : Nat → Bool) (i : Nat) (h : i < n) : (bankOf n f).getD i false = f i := by
  rw [bankOf, bankFrom_getD f 0 n i h, Nat.zero_add]

@[simp] theorem bankWrite_length (b : List Bool) (i : Nat) (v : Byte) : (bankWrite b i v).length = b.length := by
  simp [bankWrite]

theorem bankWrite_getD_self (b : List Bool) (i : Nat) (v : Byte) (h : i < b.length) :
    (bankWrite b i v).getD i false = v.getLsbD 0 := by
  simp [bankWrite, List.getD_eq_getElem?_getD, h]

theorem bankWrite_getD_of_ne (b : List Bool) (i j : Nat) (v : Byte) (h : i ≠ j) :
    (bankWrite b i v).getD j false = b.getD j false := by
  simp [bankWrite, List.getD_eq_getElem?_getD, h]

/-- A written entry reads back as bit 0 of what was written (R13). -/
theorem bankRead_bankWrite_self (b : List Bool) (i : Nat) (v : Byte) (h : i < b.length) :
    bankRead (bankWrite b i v) i = bitByte (v.getLsbD 0) := by
  unfold bankRead
  rw [bankWrite_getD_self b i v h]

/-- Every other entry reads as before. -/
theorem bankRead_bankWrite_of_ne (b : List Bool) (i j : Nat) (v : Byte) (h : i ≠ j) :
    bankRead (bankWrite b i v) j = bankRead b j := by
  unfold bankRead
  rw [bankWrite_getD_of_ne b i j v h]

/-- A latched entry is set, and every other one is as before (R219). -/
theorem set_true_getD (b : List Bool) (i j : Nat) (h : i < b.length) :
    (b.set i true).getD j false = (decide (i = j) || b.getD j false) := by
  by_cases e : i = j
  · subst e; simp [List.getD_eq_getElem?_getD, h]
  · simp [List.getD_eq_getElem?_getD, e]

/-! ## Every register write keeps the form of the register file -/

@[simp] theorem State.writeIp_memoryWf (s : State) (i : IrqNum) (v : Byte) : (s.writeIp i v).memoryWf = s.memoryWf := by
  simp [State.memoryWf, bankWf]

@[simp] theorem State.writeIe_memoryWf (s : State) (i : IrqNum) (v : Byte) : (s.writeIe i v).memoryWf = s.memoryWf := by
  simp [State.memoryWf, bankWf]

@[simp] theorem State.latchIp_memoryWf (s : State) (i : IrqNum) : (s.latchIp i).memoryWf = s.memoryWf := by
  simp [State.memoryWf, bankWf]

@[simp] theorem State.writeMtimecmp_memoryWf (s : State) (v : DWord) : (s.writeMtimecmp v).memoryWf = s.memoryWf := rfl

@[simp] theorem State.advanceMtime_memoryWf (s : State) : s.advanceMtime.memoryWf = s.memoryWf := rfl

theorem State.resetWith_memoryWf (p : Config.Params) (d : ResetDraw) : (State.resetWith p d).memoryWf = true := by
  simp [State.memoryWf, bankWf]

theorem State.reset_memoryWf : State.reset.memoryWf = true := State.resetWith_memoryWf _ _

/-- `MemWrite` keeps the form of the register file, whatever address and width it is given. -/
theorem State.memWrite_memoryWf {s t : State} {addr : Word} {n : Nat} {v : DWord} (h : s.memWrite addr n v = .done t) :
    t.memoryWf = s.memoryWf := by
  unfold State.memWrite at h
  simp only at h
  split at h
  · cases h; simp
  · split at h
    · cases h; simp
    · split at h
      · cases h; simp
      · unfold noAccess at h; split at h <;> cases h

end Machine
end Sys2Proof
end

