-- ==== Sys2Proof/Laws/Ops.lean ====
section
/-! SUPPORT. One lemma for each shared operation: everything it can answer. Provers cite these and need not unfold it. -/
namespace Sys2Proof
namespace Machine

/-- A read transaction on the counter answers its value (R44, R120). -/
theorem State.readThen_mtime (s : State) (k : DWord → Out) : s.readThen Config.mtimeAddr 8 k = k s.mtime := rfl

/-- A byte address inside a bank, as a number. -/
theorem toNat_ofNat_base (base i : Nat) (hb : base = Config.ipBase ∨ base = Config.ieBase) (hi : i < 1024) :
    (BitVec.ofNat 32 (base + i)).toNat = base + i := by
  rw [BitVec.toNat_ofNat]
  rcases hb with rfl | rfl <;> simp only [Config.ipBase, Config.ieBase, Config.clicBase, Config.ipOff, Config.ieOff] <;> omega

/-- A one-byte write transaction in the enable bank is the write of that entry (R45). -/
theorem State.writeTransaction_ie (s : State) (i : Nat) (v : DWord) (h : i < s.nIrq) :
    s.writeTransaction (Config.ieBase + i) 1 v
      = .next (s.writeIe (BitVec.ofNat 10 i) (v.extractLsb' 0 8)).answerWrite := by
  have hu := s.cfg.nIrq_upper
  have hn : s.nIrq = s.cfg.nIrq := rfl
  have hip : ¬ (1 = 1 ∧ Config.ipBase ≤ Config.ieBase + i ∧ Config.ieBase + i < Config.ipBase + s.nIrq) := by
    simp only [Config.ipBase, Config.ieBase, Config.clicBase, Config.ipOff, Config.ieOff]; omega
  have hie : 1 = 1 ∧ Config.ieBase ≤ Config.ieBase + i ∧ Config.ieBase + i < Config.ieBase + s.nIrq := by omega
  unfold State.writeTransaction State.memWrite
  dsimp only
  rw [toNat_ofNat_base Config.ieBase i (.inr rfl) (by omega), if_neg hip, if_pos hie, Nat.add_sub_cancel_left]

/-- A one-byte write transaction in the pending bank is the write of that entry (R45). -/
theorem State.writeTransaction_ip (s : State) (i : Nat) (v : DWord) (h : i < s.nIrq) :
    s.writeTransaction (Config.ipBase + i) 1 v
      = .next (s.writeIp (BitVec.ofNat 10 i) (v.extractLsb' 0 8)).answerWrite := by
  have hu := s.cfg.nIrq_upper
  have hn : s.nIrq = s.cfg.nIrq := rfl
  have hip : 1 = 1 ∧ Config.ipBase ≤ Config.ipBase + i ∧ Config.ipBase + i < Config.ipBase + s.nIrq := by omega
  unfold State.writeTransaction State.memWrite
  dsimp only
  rw [toNat_ofNat_base Config.ipBase i (.inl rfl) (by omega), if_pos hip, Nat.add_sub_cancel_left]

/-- What `MemWrite` can do: write one entry of one bank, write the compare register, or nothing (R45). -/
theorem State.memWrite_cases {s t : State} {addr : Word} {n : Nat} {v : DWord} (h : s.memWrite addr n v = .done t) :
    (∃ i, t = s.writeIp i (v.extractLsb' 0 8)) ∨ (∃ i, t = s.writeIe i (v.extractLsb' 0 8)) ∨ t = s.writeMtimecmp v := by
  unfold State.memWrite at h
  simp only at h
  split at h
  · cases h; exact .inl ⟨_, rfl⟩
  · split at h
    · cases h; exact .inr (.inl ⟨_, rfl⟩)
    · split at h
      · cases h; exact .inr (.inr rfl)
      · unfold noAccess at h; split at h <;> cases h

/-! ## Reading one byte (R42, R48) -/

@[simp] theorem State.byteAt_reply (s : State) (r : Response) (a : Nat) : (s.reply r).byteAt a = s.byteAt a := rfl
@[simp] theorem State.byteAt_answerFree (s : State) (e : Bool) (a : Nat) : (s.answerFree e).byteAt a = s.byteAt a := rfl

/-- The byte of a pending entry. -/
theorem State.byteAt_ip (s : State) (i : Nat) (h : i < s.nIrq) : s.byteAt (Config.ipBase + i) = some (bankRead s.ip i) := by
  unfold State.byteAt
  rw [if_pos (by omega), Nat.add_sub_cancel_left]

/-- The byte of an enable entry. -/
theorem State.byteAt_ie (s : State) (i : Nat) (h : i < s.nIrq) : s.byteAt (Config.ieBase + i) = some (bankRead s.ie i) := by
  have hu := s.cfg.nIrq_upper
  have hn : s.nIrq = s.cfg.nIrq := rfl
  unfold State.byteAt
  rw [if_neg (by simp only [Config.ipBase, Config.ieBase, Config.clicBase, Config.ipOff, Config.ieOff]; omega),
    if_pos (by omega), Nat.add_sub_cancel_left]

/-- A write of a pending entry leaves every byte but its own (R104). -/
theorem State.byteAt_writeIp_of_ne (s : State) (i : IrqNum) (v : Byte) (a : Nat) (h : a ≠ Config.ipBase + i.toNat) :
    (s.writeIp i v).byteAt a = s.byteAt a := by
  unfold State.byteAt
  by_cases c : Config.ipBase ≤ a ∧ a < Config.ipBase + s.nIrq
  · have c' : Config.ipBase ≤ a ∧ a < Config.ipBase + (s.writeIp i v).nIrq := c
    rw [if_pos c, if_pos c', State.writeIp_ip, bankRead_bankWrite_of_ne _ _ _ _ (by omega)]
  · have c' : ¬ (Config.ipBase ≤ a ∧ a < Config.ipBase + (s.writeIp i v).nIrq) := c
    rw [if_neg c, if_neg c']
    rfl

/-- A write of an enable entry leaves every byte but its own (R104). -/
theorem State.byteAt_writeIe_of_ne (s : State) (i : IrqNum) (v : Byte) (a : Nat) (h : a ≠ Config.ieBase + i.toNat) :
    (s.writeIe i v).byteAt a = s.byteAt a := by
  unfold State.byteAt
  by_cases c : Config.ieBase ≤ a ∧ a < Config.ieBase + s.nIrq
  · have c' : Config.ieBase ≤ a ∧ a < Config.ieBase + (s.writeIe i v).nIrq := c
    rw [if_pos c, if_pos c', State.writeIe_ie, bankRead_bankWrite_of_ne _ _ _ _ (by omega)]
    rfl
  · have c' : ¬ (Config.ieBase ≤ a ∧ a < Config.ieBase + (s.writeIe i v).nIrq) := c
    rw [if_neg c, if_neg c']
    rfl

/-- A write of the compare register leaves every byte but its eight (R122). -/
theorem State.byteAt_writeMtimecmp_of_ne (s : State) (v : DWord) (a : Nat)
    (h : a < Config.mtimecmpAddr ∨ Config.mtimecmpAddr + 8 ≤ a) : (s.writeMtimecmp v).byteAt a = s.byteAt a := by
  have c : ¬ (Config.mtimecmpAddr ≤ a ∧ a < Config.mtimecmpAddr + 8) := by omega
  unfold State.byteAt
  rw [if_neg c, if_neg c]
  rfl

/-- Returning from a trap pops one entry and restores nothing (R148, R229). -/
theorem State.leaveTrap_eq_some {s t : State} :
    s.leaveTrap = some t ↔ ∃ e rest, s.svc = e :: rest ∧ t = { s with svc := rest, xfer := .trapReturn } := by
  unfold State.leaveTrap
  cases h : s.svc with
  | nil => simp
  | cons e rest => simp [eq_comm]

/-- Taking a trap completes exactly in direct mode: the cause and the level are recorded, nothing is saved beside them, and the
processor goes to the entry (R222, R226). -/
theorem State.takeTrap_eq_next {s t : State} {cause : Word} {e : SvcEntry} :
    s.takeTrap cause e = .next t ↔
      modeIsDirect s.tvec = true ∧ t = { s with cause := cause, svc := e :: s.svc, xfer := .trapEntry s.trapTarget } := by
  unfold State.takeTrap State.enterTrap
  split <;> simp [*, eq_comm]

/-- Under a reserved mode no trap is taken (R143, R226). -/
theorem State.takeTrap_of_reserved {s : State} {cause : Word} {e : SvcEntry} (h : modeIsDirect s.tvec = false) :
    s.takeTrap cause e = .refused .trapTargetHasNoMeaning := by
  simp [State.takeTrap, h]

/-- `takeable` asks for the three things of R222. -/
theorem State.takeable_iff (s : State) (i : IrqNum) :
    s.takeable i = true ↔ s.gie = true ∧ s.candidate i = true ∧ s.mayEnter (.irq i) = true := by
  simp [State.takeable, and_assoc]

/-- What the next turn can run: a request's operation, or the next operation of the innermost call. -/
theorem fetch_run_cases {s t : State} {i : Instr} (h : fetch s = .run i t) :
    (∃ r rest, s.agenda = .request r :: rest ∧ decode r = .ok i ∧ t = s.withAgenda rest) ∨
    (∃ todo outer rest, s.agenda = .resume :: rest ∧ s.calls = (i :: todo) :: outer ∧
      t = { s.withAgenda rest with calls := callsAfter todo outer }) := by
  unfold fetch at h
  split at h
  · cases h
  · rename_i r rest hs
    refine .inl ⟨r, rest, hs, ?_⟩
    unfold fetchRequest at h
    split at h <;> cases h
    exact ⟨by assumption, rfl⟩
  · rename_i rest hs
    unfold fetchResume at h
    split at h <;> cases h
    exact .inr ⟨_, _, rest, hs, by assumption, rfl⟩

/-- A turn that the port answers with the error response is a request. -/
theorem fetch_busError_cases {s t : State} (h : fetch s = .busError t) :
    ∃ r rest a, s.agenda = .request r :: rest ∧ decode r = .error (.busError a) ∧ t = s.withAgenda rest := by
  unfold fetch at h
  split at h
  · cases h
  · rename_i r rest hs
    unfold fetchRequest at h
    split at h <;> cases h
    exact ⟨r, rest, _, hs, by assumption, rfl⟩
  · unfold fetchResume at h
    split at h <;> cases h

/-- What a step can do: run the fetched operation, or answer the error response. -/
theorem step_next_cases {s t : State} (h : step s = .next t) :
    (∃ i u, fetch s = .run i u ∧ exec i u = .next t) ∨ (∃ u, fetch s = .busError u ∧ t = u.answerBusError) := by
  unfold step at h
  split at h
  · exact .inl ⟨_, _, by assumption, h⟩
  · cases h; exact .inr ⟨_, by assumption, rfl⟩
  · cases h

end Machine
end Sys2Proof
end

