-- ==== Sys2Proof/Laws/PerInstr.lean ====
section
/-! SUPPORT. Statements made for each constructor of `Instr`. -/
namespace Sys2Proof
namespace Laws

/-- The format an interface carries (R70, R83). -/
def interfaceFormat : Request → Option Format
  | .mmio _ _ => some .m
  | .sideband _ => some .s
  | .event _ => some .e
  | .func _ => some .f
  | .cause _ => some .c
  | .call _ => some .pseudo
  | .fetch _ => none
  | .noInterface _ _ => none

/-- Every operation is encoded onto the interface of its own format (R70). -/
def Interface.Statement (i : Instr) : Prop := interfaceFormat (encode i) = some i.format

theorem Interface.ipRead (i : IrqNum) : Interface.Statement (.ipRead i) := rfl
theorem Interface.ipWrite (i : IrqNum) (v : Byte) : Interface.Statement (.ipWrite i v) := rfl
theorem Interface.ieRead (i : IrqNum) : Interface.Statement (.ieRead i) := rfl
theorem Interface.ieWrite (i : IrqNum) (v : Byte) : Interface.Statement (.ieWrite i v) := rfl
theorem Interface.mtimeRead : Interface.Statement (.mtimeRead) := rfl
theorem Interface.mtimecmpRead : Interface.Statement (.mtimecmpRead) := rfl
theorem Interface.mtimecmpWrite (v : DWord) : Interface.Statement (.mtimecmpWrite v) := rfl
theorem Interface.mtimeWrite (v : DWord) : Interface.Statement (.mtimeWrite v) := rfl
theorem Interface.causeRead : Interface.Statement (.causeRead) := rfl
theorem Interface.tvecRead : Interface.Statement (.tvecRead) := rfl
theorem Interface.tvecWrite (w : Word) : Interface.Statement (.tvecWrite w) := rfl
theorem Interface.gieRead : Interface.Statement (.gieRead) := rfl
theorem Interface.gieSet : Interface.Statement (.gieSet) := rfl
theorem Interface.gieClear : Interface.Statement (.gieClear) := rfl
theorem Interface.excReport (code : BitVec 31) : Interface.Statement (.excReport code) := rfl
theorem Interface.trapReturn : Interface.Statement (.trapReturn) := rfl
theorem Interface.tick : Interface.Statement (.tick) := rfl
theorem Interface.irqLatch (i : IrqNum) : Interface.Statement (.irqLatch i) := rfl
theorem Interface.irqTake (i : IrqNum) : Interface.Statement (.irqTake i) := rfl
theorem Interface.lineHigh (i : IrqNum) : Interface.Statement (.lineHigh i) := rfl
theorem Interface.lineLow (i : IrqNum) : Interface.Statement (.lineLow i) := rfl
theorem Interface.fromIrq (n : Word) : Interface.Statement (.fromIrq n) := rfl
theorem Interface.toIrq (src : Source) : Interface.Statement (.toIrq src) := rfl
theorem Interface.decodeCause (w : Word) : Interface.Statement (.decodeCause w) := rfl
theorem Interface.causeException (code : BitVec 31) : Interface.Statement (.causeException code) := rfl
theorem Interface.causeMachineSoft : Interface.Statement (.causeMachineSoft) := rfl
theorem Interface.causeMachineTimer : Interface.Statement (.causeMachineTimer) := rfl
theorem Interface.causeMachineExternal : Interface.Statement (.causeMachineExternal) := rfl
theorem Interface.causeDma : Interface.Statement (.causeDma) := rfl
theorem Interface.causeSpi : Interface.Statement (.causeSpi) := rfl
theorem Interface.causeUart0 : Interface.Statement (.causeUart0) := rfl
theorem Interface.causeUart1 : Interface.Statement (.causeUart1) := rfl
theorem Interface.causeI2c : Interface.Statement (.causeI2c) := rfl
theorem Interface.causePwm : Interface.Statement (.causePwm) := rfl
theorem Interface.causeTimerCh0 : Interface.Statement (.causeTimerCh0) := rfl
theorem Interface.causeTimerCh1 : Interface.Statement (.causeTimerCh1) := rfl
theorem Interface.causeWatchdog : Interface.Statement (.causeWatchdog) := rfl
theorem Interface.causeGpio : Interface.Statement (.causeGpio) := rfl
theorem Interface.causeUnknownIrq (code : BitVec 31) : Interface.Statement (.causeUnknownIrq code) := rfl
theorem Interface.enableInterrupt (src : Source) : Interface.Statement (.enableInterrupt src) := rfl
theorem Interface.disableInterrupt (src : Source) : Interface.Statement (.disableInterrupt src) := rfl
theorem Interface.clearInterrupt (src : Source) : Interface.Statement (.clearInterrupt src) := rfl
theorem Interface.tryNew : Interface.Statement (.tryNew) := rfl
theorem Interface.getTicks : Interface.Statement (.getTicks) := rfl
theorem Interface.getTimeMs : Interface.Statement (.getTimeMs) := rfl
theorem Interface.getTimeUs : Interface.Statement (.getTimeUs) := rfl
theorem Interface.setTimecmp (delay : DWord) : Interface.Statement (.setTimecmp delay) := rfl
theorem Interface.setupInterrupts (entry : Word) : Interface.Statement (.setupInterrupts entry) := rfl
theorem Interface.dispatch : Interface.Statement (.dispatch) := rfl

end Laws
end Sys2Proof
end

