-- ==== Sys2Proof/Laws/Safety.lean ====
section
/-! SUPPORT. The parts of the invariants and what a run counts, one lemma each, so that no later proof unfolds them. -/
namespace Sys2Proof
namespace Machine

@[simp] theorem sequenceOp_ieWrite (n : Nat) (i : IrqNum) (v : Byte) : sequenceOp n (.ieWrite i v) = decide (i.toNat < n) := rfl
@[simp] theorem sequenceOp_ipWrite (n : Nat) (i : IrqNum) (v : Byte) : sequenceOp n (.ipWrite i v) = decide (i.toNat < n) := rfl
@[simp] theorem sequenceOp_tvecWrite (n : Nat) (w : Word) : sequenceOp n (.tvecWrite w) = modeIsDirect w := rfl
@[simp] theorem sequenceOp_mtimecmpWrite (n : Nat) (v : DWord) : sequenceOp n (.mtimecmpWrite v) = true := rfl
@[simp] theorem sequenceOp_gieSet (n : Nat) : sequenceOp n .gieSet = true := rfl
@[simp] theorem sequenceOp_trapReturn (n : Nat) : sequenceOp n .trapReturn = true := rfl

@[simp] theorem callOk_nil (n : Nat) : callOk n [] = false := rfl

@[simp] theorem callOk_cons (n : Nat) (i : Instr) (todo : List Instr) :
    callOk n (i :: todo) = (sequenceOp n i && todo.all (sequenceOp n)) := rfl

/-- The calls left after the innermost one issued an operation are as good as before. -/
theorem callsAfter_ok (n : Nat) (i : Instr) (todo : List Instr) (outer : List (List Instr))
    (h : ((i :: todo) :: outer).all (callOk n) = true) : (callsAfter todo outer).all (callOk n) = true := by
  simp only [List.all_cons, callOk_cons, Bool.and_eq_true] at h
  cases todo with
  | nil => exact h.2
  | cons j rest => simp only [callsAfter, List.isEmpty_cons, Bool.false_eq_true, if_false, List.all_cons, callOk_cons,
      Bool.and_eq_true]; exact ⟨by simpa using h.1.2, h.2⟩

/-- What `State.wf` says, part by part. -/
theorem State.wf_iff (s : State) :
    s.wf = true ↔ s.ie.length = s.cfg.nIrq ∧ s.ip.length = s.cfg.nIrq ∧ s.lines.length = s.cfg.nIrq ∧
      s.svc.all (entryOk s.cfg.nIrq) = true ∧ s.calls.all (callOk s.cfg.nIrq) = true := by
  simp only [State.wf, State.memoryWf, bankWf, State.nIrq_eq, Bool.and_eq_true, beq_iff_eq]
  tauto

@[simp] theorem svcOrdered_nil (p : Config.Params) : svcOrdered p [] = true := rfl
@[simp] theorem svcOrdered_one (p : Config.Params) (a : SvcEntry) : svcOrdered p [a] = true := rfl
@[simp] theorem svcOrdered_cons (p : Config.Params) (a b : SvcEntry) (rest : List SvcEntry) :
    svcOrdered p (a :: b :: rest) = ((a == .exc || (p.nesting && p.preempts a b)) && svcOrdered p (b :: rest)) := rfl

/-! ## Along a run -/

@[simp] theorem opsAlongRun_zero (p : Instr → Bool) (s : State) : opsAlongRun p 0 s = 0 := rfl

theorem opsAlongRun_succ (p : Instr → Bool) (k : Nat) {s t : State} (h : step s = .next t) :
    opsAlongRun p (k + 1) s = (if s.nextOp.any p then 1 else 0) + opsAlongRun p k t := by
  simp only [opsAlongRun, h]

@[simp] theorem keptAlongRun_zero (duty : State → Bool) (s : State) : keptAlongRun duty 0 s = true := rfl

theorem keptAlongRun_succ (duty : State → Bool) (k : Nat) {s t : State} (h : step s = .next t) :
    keptAlongRun duty (k + 1) s = (duty s && keptAlongRun duty k t) := by
  simp only [keptAlongRun, h]

/-- A step runs `nextOp` at a state that differs from `s` in the agenda and the calls alone, or answers the error response. -/
theorem step_nextOp_cases {s t : State} (h : step s = .next t) :
    (∃ i a c, s.nextOp = some i ∧ exec i { s with agenda := a, calls := c } = .next t) ∨
    (s.nextOp = none ∧ ∃ a, t = (s.withAgenda a).answerBusError) := by
  rcases step_next_cases h with ⟨i, u, hf, he⟩ | ⟨u, hf, rfl⟩
  · refine .inl ⟨i, u.agenda, u.calls, by simp [State.nextOp, hf], ?_⟩
    rcases fetch_run_cases hf with ⟨_, _, _, _, rfl⟩ | ⟨_, _, _, _, _, rfl⟩ <;> exact he
  · refine .inr ⟨by simp [State.nextOp, hf], ?_⟩
    obtain ⟨_, rest, _, _, _, rfl⟩ := fetch_busError_cases hf
    exact ⟨rest, rfl⟩

end Machine
end Sys2Proof
end

