-- ==== Sys2Proof/Tests/Slice0.lean ====
section
/-! SUPPORT. Tests of one step each, whose expected results stand in spec/95_test_vectors.md (the vector's id is in the test's
docstring) or in the tables of spec/30_encoding.md, and a witness for the hypotheses of every statement. -/
namespace Sys2Proof
namespace Tests
open Machine

/-! ## Small states -/

/-- The block of spec/95_test_vectors.md: `N_IRQ = 64`, no nesting, a 32768 Hz time base. -/
def block : Config.Params where
  nIrqExtra := 3
  nesting := false
  preemptPairs := []
  fTick := some 32768

/-- The largest block, with nesting: line 7 preempts line 60. -/
def bigBlock : Config.Params where
  nIrqExtra := 963
  nesting := true
  preemptPairs := [(.irq 7, .irq 60)]
  fTick := none

/-- The state spec/95_test_vectors.md starts from: what `setup_interrupts 0x23001000` leaves. The counter is below the
compare register. -/
def start : State :=
  { State.resetWith block ResetDraw.zero with
    gie := true, tvec := 0x23001000, mtimecmp := 0xFFFFFFFFFFFFFFFF, mtime := 10000, boot := .setUp }

/-- The same on the largest block. -/
def bigStart : State := { State.resetWith bigBlock ResetDraw.zero with gie := true, tvec := 0x23001000, boot := .setUp }

/-- `start` with line `n` enabled and pending. -/
def pending (n : Nat) : State := { start with ie := start.ie.set n true, ip := start.ip.set n true }

/-- `start` with a time base of `f` hertz. -/
def ticking (f : Nat) : State := { start with cfg := { block with fTick := some f } }

/-- `start` without a time base. -/
def timeless : State := { start with cfg := { block with fTick := none } }

/-- `start` with one request to come. -/
def asked (r : Request) : State := { start with agenda := [.request r] }

/-- A field of the next state. -/
def after {α : Type} (o : Out) (f : State → α) : Option α :=
  match o with
  | .next t => some (f t)
  | .fault _ => none
  | .refused _ => none

/-- The reason of a refusal. -/
def refusal (o : Out) : Option Refusal :=
  match o with
  | .next _ => none
  | .fault _ => none
  | .refused r => some r

/-- The reason of a fault. -/
def faultOf (o : Out) : Option Fault :=
  match o with
  | .next _ => none
  | .fault f => some f
  | .refused _ => none

/-- The operation a request decodes to. -/
def op (r : Request) : Option Instr := (decode r).toOption

/-! ## Well-formedness: one ill-formed term for each check -/

theorem test_wf_refuses_lineHigh_of_line_7 : (Instr.lineHigh 7).wf = false ∧ (Instr.lineHigh 6).wf = true := by decide
theorem test_wf_refuses_lineLow_of_line_7 : (Instr.lineLow 7).wf = false ∧ (Instr.lineLow 8).wf = true := by decide
theorem test_wf_refuses_unknown_class_of_a_known_code :
    (Instr.causeUnknownIrq 60).wf = false ∧ (Instr.causeUnknownIrq 61).wf = true := by decide
theorem test_wf_refuses_an_unaligned_entry :
    (Instr.setupInterrupts 0x23001001).wf = false ∧ (Instr.setupInterrupts 0x23001000).wf = true := by decide

/-! ## Decoding: a word written out from the spec for every operation -/

/-- R72; E1, E2, B3, B6, T5, S7, T8. -/
theorem test_decode_format_m :
    op (.mmio 0x00280003C 0) = some (.ipRead 60) ∧
    op (.mmio 0x40280002D 0) = some (.ipWrite 45 0) ∧
    op (.mmio 0x002800400 0) = some (.ieRead 0) ∧
    op (.mmio 0x40280043C 0xFF) = some (.ieWrite 60 0xFF) ∧
    op (.mmio 0x30200BFF8 0) = some .mtimeRead ∧
    op (.mmio 0x302004000 0) = some .mtimecmpRead ∧
    op (.mmio 0x702004000 0x2AF8) = some (.mtimecmpWrite 11000) ∧
    op (.mmio 0x70200BFF8 0) = some (.mtimeWrite 0) := by decide

/-- R73; K1, K3, K4, K6, E6, E7. -/
theorem test_decode_format_s :
    op (.sideband 0x000000000) = some .causeRead ∧
    op (.sideband 0x100000000) = some .tvecRead ∧
    op (.sideband 0x223001000) = some (.tvecWrite 0x23001000) ∧
    op (.sideband 0x300000000) = some .gieRead ∧
    op (.sideband 0x400000000) = some .gieSet ∧
    op (.sideband 0x500000000) = some .gieClear ∧
    op (.sideband 0x600000002) = some (.excReport 2) ∧
    op (.sideband 0x7FFFFFFFF) = some .trapReturn := by decide

/-- R74; B10, X5, X7, X13, E9. -/
theorem test_decode_format_e :
    op (.event 0x0000) = some .tick ∧
    op (.event 0x042D) = some (.irqLatch 45) ∧
    op (.event 0x083C) = some (.irqTake 60) ∧
    op (.event 0x0C14) = some (.lineHigh 20) ∧
    op (.event 0x103C) = some (.lineLow 60) ∧
    op (.event 0x0001) = none := by decide

/-- R75, R77; P1 step 133, E11, F15. -/
theorem test_decode_format_f :
    op (.func 0x00000003C) = some (.fromIrq 60) ∧
    op (.func 0x100000003) = some (.toIrq .gpio) ∧
    op (.func 0x10000000F) = some (.toIrq .unknown) ∧
    op (.func 0x28000003C) = some (.decodeCause 0x8000003C) ∧
    op (.func 0x10000000D) = none := by decide

/-- R76, the match word of each row; E13, F10, F12. -/
theorem test_decode_format_c :
    op (.cause 0x7FFFFFFF) = some (.causeException 0x7FFFFFFF) ∧
    op (.cause 0x80000003) = some .causeMachineSoft ∧
    op (.cause 0x80000007) = some .causeMachineTimer ∧
    op (.cause 0x8000000B) = some .causeMachineExternal ∧
    op (.cause 0x8000001F) = some .causeDma ∧
    op (.cause 0x8000002B) = some .causeSpi ∧
    op (.cause 0x8000002D) = some .causeUart0 ∧
    op (.cause 0x8000002E) = some .causeUart1 := by decide

theorem test_decode_format_c_rest :
    op (.cause 0x80000030) = some .causeI2c ∧
    op (.cause 0x80000032) = some .causePwm ∧
    op (.cause 0x80000034) = some .causeTimerCh0 ∧
    op (.cause 0x80000035) = some .causeTimerCh1 ∧
    op (.cause 0x80000036) = some .causeWatchdog ∧
    op (.cause 0x8000003C) = some .causeGpio ∧
    op (.cause 0x80000010) = some (.causeUnknownIrq 16) := by decide

/-- R85: a software operation has no pattern; it is called by name, and nothing else can be. -/
theorem test_decode_calls :
    op (.call (.enableInterrupt .gpio)) = some (.enableInterrupt .gpio) ∧
    op (.call (.disableInterrupt .gpio)) = some (.disableInterrupt .gpio) ∧
    op (.call (.clearInterrupt .uart0)) = some (.clearInterrupt .uart0) ∧
    op (.call .tryNew) = some .tryNew ∧ op (.call .getTicks) = some .getTicks ∧
    op (.call .getTimeMs) = some .getTimeMs ∧ op (.call .getTimeUs) = some .getTimeUs ∧
    op (.call (.setTimecmp 1000)) = some (.setTimecmp 1000) ∧
    op (.call (.setupInterrupts 0x23001000)) = some (.setupInterrupts 0x23001000) ∧
    op (.call .dispatch) = some .dispatch ∧ op (.call .tick) = none := by decide

/-- R77: ids 0 to 12 and 15 name the sources in the table's order. -/
theorem test_source_ids :
    (List.range 16).map (fun n => Source.ofId (BitVec.ofNat 4 n)) =
      [some .machineSoft, some .machineTimer, some .machineExternal, some .gpio, some .timerCh0, some .timerCh1, some .watchdog,
       some .dma, some .spi, some .uart0, some .uart1, some .i2c, some .pwm, none, none, some .unknown] := by decide

/-- E3, E4, E5, E10, E12, K8. -/
theorem test_refused_patterns :
    refusal (step (asked (.mmio 0x002800800 0))) = some .notThisBlock ∧
    refusal (step (asked (.mmio 0x30200C000 0))) = some .notThisBlock ∧
    refusal (step (asked (.mmio 0x301FFFFF8 0))) = some .notThisBlock ∧
    refusal (step (asked (.event 0x1400))) = some .reservedEncoding ∧
    refusal (step (asked (.func 0x300000000))) = some .reservedEncoding ∧
    refusal (step (asked (.sideband 0x800000000))) = some .reservedEncoding := by decide

/-- B11, B12, T12, T13, E4 and R57: no register access inside a window is an error response that changes no register. -/
theorem test_error_responses :
    [(0x602800400, 0), (0x102800000, 0), (0x20200BFF8, 0), (0x20200BFFC, 0), (0x30200BFFC, 0), (0x302004008, 0),
     (0x002004000, 0), (0x302000000, 0)].all (fun x =>
      after (step (asked (.mmio (BitVec.ofNat 35 x.1) x.2))) (fun t => (t.busFault, t.ie == start.ie, t.mtimecmp))
        == some (true, true, 0xFFFFFFFFFFFFFFFF)) = true ∧
    after (step (asked (.fetch 0x02800000))) State.busFault = some true := by decide

/-! ## Banks -/

/-- S4's last read and B10's. -/
theorem test_ipRead : after (exec (.ipRead 45) (pending 45)) State.resp = some (.mmio 1 false) ∧
    after (exec (.ipRead 43) (pending 45)) State.resp = some (.mmio 0 false) := by decide
/-- B5. -/
theorem test_ipRead_beyond : after (exec (.ipRead 1023) start) State.busFault = some true ∧
    after (exec (.ipRead 1023) bigStart) State.busFault = some false := by decide
/-- B3. -/
theorem test_ipWrite_isolated : after (exec (.ipWrite 45 0) { start with ip := (start.ip.set 45 true).set 46 true })
    (fun t => (t.ip.getD 44 true, t.ip.getD 45 true, t.ip.getD 46 false, t.ie)) = some (false, false, true, start.ie) := by decide
/-- B7. -/
theorem test_ipWrite_raises_a_request :
    after (exec (.ipWrite 60 1) { start with ie := start.ie.set 60 true }) State.trapReq = some true := by decide
/-- B9. -/
theorem test_ieRead : after (exec (.ieRead 60) (pending 60)) State.resp = some (.mmio 1 false) ∧
    after (exec (.ieRead 5) (pending 60)) State.resp = some (.mmio 0 false) := by decide
/-- B1, B2: only bit 0 counts. -/
theorem test_ieWrite_bit_zero : after (exec (.ieWrite 60 0xFF) start) (fun t => t.ie.getD 60 false) = some true ∧
    after (exec (.ieWrite 60 0x02) (pending 60)) (fun t => (t.ie.getD 60 true, t.ip.getD 60 false, t.trapReq))
      = some (false, true, false) := by decide
/-- B4, on both blocks. -/
theorem test_ieWrite_beyond : after (exec (.ieWrite 64 1) start) State.busFault = some true ∧
    after (exec (.ieWrite 64 1) bigStart) (fun t => (t.busFault, t.ie.getD 64 false)) = some (false, true) := by decide

/-! ## Timer -/

/-- T5's value. -/
theorem test_mtimeRead : after (exec .mtimeRead { start with mtime := 0x0000000100000000 }) State.resp
    = some (.mmio 0x0000000100000000 false) := by decide
/-- S7's last read. -/
theorem test_mtimecmpRead : after (exec .mtimecmpRead { start with mtimecmp := 11000 }) State.resp
    = some (.mmio 0x2AF8 false) := by decide
/-- T6, T7: the line follows at once, `IP[7]` does not. -/
theorem test_mtimecmpWrite :
    after (exec (.mtimecmpWrite 5) { start with mtime := 10 }) (fun t => (t.irqIn 7, t.ip.getD 7 true)) = some (true, false) ∧
    after (exec (.mtimecmpWrite 1000) { pending 7 with mtime := 10, mtimecmp := 5 }) (fun t => (t.irqIn 7, t.ip.getD 7 false))
      = some (false, true) := by decide
/-- T8. -/
theorem test_mtimeWrite : after (exec (.mtimeWrite 0) start) (fun t => (t.busFault, t.mtime)) = some (true, 10000) := by decide
/-- T1, T2. -/
theorem test_tick : after (exec .tick { start with mtime := 10999, mtimecmp := 11000 }) (fun t => (t.mtime, t.irqIn 7))
      = some (11000, true) ∧
    after (exec .tick { start with mtime := 11000, mtimecmp := 11000 }) (fun t => (t.mtime, t.irqIn 7))
      = some (11001, true) := by decide
/-- T4. -/
theorem test_tick_wraps : after (exec .tick { start with mtime := 0xFFFFFFFFFFFFFFFF }) (fun t => (t.mtime, t.irqIn 7))
    = some (0, false) := by decide
/-- T3, T9: an unsigned comparison. -/
theorem test_comparator : State.irqIn { start with mtime := 0, mtimecmp := 0 } 7 = true ∧
    State.irqIn { start with mtime := 0x8000000000000000, mtimecmp := 1 } 7 = true := by decide

/-! ## Sideband -/

/-- K7. -/
theorem test_causeRead : after (exec .causeRead { start with cause := 0x8000000B }) (fun t => (t.resp, t.cause))
    = some (.sideband 0x8000000B, 0x8000000B) := by decide
/-- K1. -/
theorem test_tvecRead : after (exec .tvecRead start) State.resp = some (.sideband 0x23001000) := by decide
/-- K1. -/
theorem test_tvecWrite : after (exec (.tvecWrite 0x23001000) { start with tvec := 3 }) (fun t => (t.tvec, t.trapTarget))
    = some (0x23001000, 0x23001000) := by decide
/-- K2. -/
theorem test_tvecWrite_reserved : refusal (exec (.tvecWrite 0x23001001) start) = some .reservedTvecMode ∧
    refusal (exec (.tvecWrite 0x23001003) start) = some .reservedTvecMode := by decide
/-- K3. -/
theorem test_gieRead : after (exec .gieRead start) State.resp = some (.sideband 1) ∧
    after (exec .gieRead { start with gie := false }) State.resp = some (.sideband 0) := by decide
/-- K9. -/
theorem test_gieSet : after (exec .gieSet { pending 60 with gie := false }) State.trapReq = some true := by decide
/-- K3. -/
theorem test_gieClear : after (exec .gieClear (pending 60)) (fun t => (t.gie, t.trapReq)) = some (false, false) := by decide
/-- K4: `arg[31]` is ignored. -/
theorem test_excReport : after (step (asked (.sideband 0x6FFFFFFFF))) (fun t => (t.cause, t.svc, t.xfer))
    = some (0x7FFFFFFF, [.exc], .trapEntry 0x23001000) := by decide
/-- U13: a trap through a reserved mode is refused, an exception's too. -/
theorem test_excReport_reserved : refusal (exec (.excReport 2) { start with tvec := 3 }) = some .trapTargetHasNoMeaning := by decide
/-- K5, and P4 step 8. -/
theorem test_excReport_always_accepted :
    after (exec (.excReport 2) { start with gie := false }) (fun t => (t.cause, t.svc, t.gie)) = some (2, [.exc], false) ∧
    after (exec (.excReport 2) { start with svc := [.irq 20] }) State.svc = some [.exc, .irq 20] := by decide
/-- K10. -/
theorem test_trapReturn : after (exec .trapReturn { pending 60 with svc := [.irq 60], cause := 0x8000003C })
    (fun t => (t.svc, t.cause, t.gie, t.trapReq)) = some ([], 0x8000003C, true, true) := by decide
/-- K6. -/
theorem test_trapReturn_without_trap : refusal (exec .trapReturn start) = some .returnWithoutTrap := by decide

/-! ## Events -/

/-- X8, X15. -/
theorem test_irqLatch :
    after (exec (.irqLatch 45) { start with gie := false, lines := start.lines.set 45 true }) (fun t => t.ip.getD 45 false)
      = some true ∧
    refusal (exec (.irqLatch 45) start) = some .notEnabled := by decide
/-- X14, and line 7. -/
theorem test_irqLatch_timer : refusal (exec (.irqLatch 64) start) = some .reservedEncoding ∧
    after (exec (.irqLatch 7) { start with mtimecmp := 10000 }) (fun t => t.ip.getD 7 false) = some true := by decide
/-- X5. -/
theorem test_irqTake : after (exec (.irqTake 60) (pending 60))
    (fun t => (t.cause, t.svc, t.ip.getD 60 false, t.ie.getD 60 false, t.gie, t.xfer))
    = some (0x8000003C, [.irq 60], true, true, true, .trapEntry 0x23001000) := by decide
/-- X1, X2, X3, X12. -/
theorem test_irqTake_not_enabled :
    refusal (exec (.irqTake 60) { pending 60 with gie := false }) = some .notEnabled ∧
    refusal (exec (.irqTake 60) { pending 60 with ie := start.ie }) = some .notEnabled ∧
    refusal (exec (.irqTake 60) { pending 60 with svc := [.irq 7] }) = some .notEnabled ∧
    refusal (exec (.irqTake 60) { pending 60 with tvec := 3 }) = some .trapTargetHasNoMeaning := by decide
/-- X4: two candidates, either may be taken. -/
theorem test_either_candidate : State.takeable { pending 60 with ie := (pending 60).ie.set 7 true, ip := (pending 60).ip.set 7 true } 7 = true ∧
    State.takeable { pending 60 with ie := (pending 60).ie.set 7 true, ip := (pending 60).ip.set 7 true } 60 = true := by decide
/-- X10, X11. -/
theorem test_nesting :
    after (exec (.irqTake 7) { bigStart with ie := bigStart.ie.set 7 true, ip := bigStart.ip.set 7 true, svc := [.irq 60] })
      (fun t => (t.cause, t.svc)) = some (0x80000007, [.irq 7, .irq 60]) ∧
    State.takeable { bigStart with ie := bigStart.ie.set 60 true, ip := bigStart.ip.set 60 true, svc := [.irq 60] } 60 = false := by
  decide
/-- X7, X14. -/
theorem test_lineHigh : after (exec (.lineHigh 20) start) (fun t => (t.irqIn 20, t.ip.getD 20 true)) = some (true, false) ∧
    refusal (exec (.lineHigh 7) start) = some .reservedEncoding := by decide
/-- X13. -/
theorem test_lineLow : after (exec (.lineLow 60) { pending 60 with lines := start.lines.set 60 true })
    (fun t => (t.irqIn 60, t.ip.getD 60 false)) = some (false, true) := by decide

/-! ## Decoder -/

/-- F1. -/
theorem test_fromIrq_known :
    ([3, 7, 11, 31, 43, 45, 46, 48, 50, 52, 53, 54, 60] : List Word).map fromIrq =
      [.machineSoft, .machineTimer, .machineExternal, .dma, .spi, .uart0, .uart1, .i2c, .pwm, .timerCh0, .timerCh1, .watchdog,
       .gpio] := by decide
/-- F2 to F6. -/
theorem test_fromIrq_unknown :
    ([0, 1, 2, 4, 12, 15, 16, 27, 29, 30, 32, 34, 36, 37, 38, 42, 44, 47, 49, 51, 55, 59, 61, 200, 0xFFFFFFFF, 0x80000003] :
      List Word).all (fun n => fromIrq n == .unknown) = true := by decide
/-- F7. -/
theorem test_toIrq : Source.all.map toIrq =
    [some 3, some 7, some 11, some 60, some 52, some 53, some 54, some 31, some 43, some 45, some 46, some 48, some 50, none] := by
  decide
/-- F14: the number of `Unknown` is not constrained. -/
theorem test_toIrq_unknown : after (exec (.toIrq .unknown) start)
    (fun t => match t.resp with | .irqNumber valid _ => some valid | _ => none) = some (some false) := by decide
/-- F8, F13. -/
theorem test_decodeCause_handlers :
    ([0x8000000B, 0x80000003, 0x80000007, 0x8000001F, 0x8000002B, 0x8000002D, 0x8000002E, 0x80000030, 0x80000032, 0x80000034,
      0x80000035, 0x80000036, 0x8000003C] : List Word).map decodeTrapCause =
      [(.handler, .machineExternal), (.handler, .machineSoft), (.handler, .machineTimer), (.handler, .dma), (.handler, .spi),
       (.handler, .uart0), (.handler, .uart1), (.handler, .i2c), (.handler, .pwm), (.handler, .timerCh0), (.handler, .timerCh1),
       (.handler, .watchdog), (.handler, .gpio)] := by decide
/-- F9 to F12, X9, S10. -/
theorem test_decodeCause_exception_path :
    ([0x0000000B, 0x80000010, 0x8000010B, 0x80000000, 0x00000000, 0xFFFFFFFF, 0x7FFFFFFF, 0x8000003F, 0x800000C8] :
      List Word).all (fun w => decodeTrapCause w == (.exceptionPath, .unknown)) = true := by decide
/-- E13 and the first and last row of R76. -/
theorem test_cause_classes :
    after (step (asked (.cause 0x8000002D))) State.resp = some (.classified .uart0 .handler .uart0) ∧
    after (step (asked (.cause 0x00000003))) State.resp = some (.classified .exception .exceptionPath .unknown) ∧
    after (step (asked (.cause 0x80000014))) State.resp = some (.classified .unknownIrq .exceptionPath .unknown) := by decide
/-- The remaining rows answer the class their word has in R76. -/
theorem test_cause_rows :
    sourceRows.all (fun row => after (exec row.1 start) State.resp == some (.classified row.2.1 .handler row.2.2.1)) = true := by
  decide

/-! ## Software operations -/

/-- S3, W10. -/
theorem test_enableInterrupt : after (exec (.enableInterrupt .gpio) start) (fun t => t.ie) = some (start.ie.set 60 true) := by decide
/-- F14. -/
theorem test_enableInterrupt_unknown : faultOf (exec (.enableInterrupt .unknown) start) = some .panicUnknownHasNoIrq := by decide
/-- S3. -/
theorem test_disableInterrupt : after (exec (.disableInterrupt .gpio) (pending 60)) (fun t => (t.ie, t.ip.getD 60 false))
    = some (start.ie, true) := by decide
/-- S4. -/
theorem test_clearInterrupt :
    after (exec (.clearInterrupt .uart0) { start with ip := (start.ip.set 45 true).set 43 true }) (fun t => t.ip)
      = some (start.ip.set 43 true) := by decide
/-- S8. -/
theorem test_tryNew : after (exec .tryNew start) State.resp = some (.timeBase (some 32768)) ∧
    after (exec .tryNew timeless) State.resp = some (.timeBase none) := by decide
theorem test_getTicks : after (exec .getTicks start) State.resp = some (.time 10000) := by decide
/-- S5, W1, W2, W5, W7. -/
theorem test_getTimeMs :
    after (exec .getTimeMs { start with mtime := 65536 }) State.resp = some (.time 2048) ∧
    after (exec .getTimeMs { start with mtime := 65535 }) State.resp = some (.time 2047) ∧
    after (exec .getTimeMs { start with mtime := 31 }) State.resp = some (.time 0) ∧
    after (exec .getTimeMs { ticking 1999999 with mtime := 5000000 }) State.resp = some (.time 2501) ∧
    after (exec .getTimeMs { start with mtime := 0xFFFFFFFFFFFFFFFF }) State.resp = some (.time 576460752303423487) := by decide
/-- W3. -/
theorem test_getTimeMs_zero_scale : faultOf (exec .getTimeMs (ticking 999)) = some .divideByZero ∧
    after (exec .getTimeMs (ticking 1000)) State.resp = some (.time 10000) := by decide
/-- S6 as corrected by spec/90_conflicts.md C3, W5, W6. -/
theorem test_getTimeUs :
    after (exec .getTimeUs { ticking 1000000 with mtime := 5000000 }) State.resp = some (.time 5000000) ∧
    after (exec .getTimeUs { ticking 1999999 with mtime := 5000000 }) State.resp = some (.time 5000000) ∧
    after (exec .getTimeUs { ticking 2000000 with mtime := 5000001 }) State.resp = some (.time 2500000) := by decide
/-- W4, W8. -/
theorem test_getTimeUs_zero_scale : faultOf (exec .getTimeUs start) = some .divideByZero ∧
    refusal (exec .getTimeUs timeless) = some .noTimeBase := by decide
/-- S7, T10: the first transaction, and what the second will write. -/
theorem test_setTimecmp :
    after (exec (.setTimecmp 1000) start) (fun t => (t.resp, t.calls)) = some (.mmio 0x2710 false, [[.mtimecmpWrite 11000]]) ∧
    after (exec (.setTimecmp 0xFFFFFFFFFFFFFFFF) { start with mtime := 10 }) State.calls = some [[.mtimecmpWrite 9]] := by decide
/-- S7's second half. -/
theorem test_setTimecmp_second_half :
    after (step { start with calls := [[.mtimecmpWrite 11000]], agenda := [.resume] }) (fun t => (t.mtimecmp, t.calls))
      = some (11000, []) := by decide
/-- P1 steps 1 to 3: the first of W9's port steps clears `GIE`, the next two install the entry and clear `IE[0]`. -/
theorem test_setupInterrupts : after (exec (.setupInterrupts 0x23001000) { start with boot := .fresh })
    (fun t => (t.gie, t.boot, t.calls.map (List.take 2))) = some (false, .setUp, [[.tvecWrite 0x23001000, .ieWrite 0 0]]) := by decide
/-- U8: a second call, and a call after a line was enabled. -/
theorem test_setupInterrupts_refused : refusal (exec (.setupInterrupts 0x23001000) start) = some .setupNotFirst ∧
    after (exec (.enableInterrupt .gpio) { start with boot := .fresh }) State.boot = some .linesEnabled ∧
    after (exec (.ieWrite 60 0xFE) { start with boot := .fresh }) State.boot = some .fresh ∧
    refusal (exec (.setupInterrupts 0x23001000) { start with boot := .linesEnabled }) = some .setupNotFirst := by decide
/-- W9: 131 port steps, one of them the first. -/
theorem test_setupRest_length : (setupRest 64 0x23001000).length = 130 := by simp [setupRest]
/-- S9, S10. -/
theorem test_dispatch :
    after (exec .dispatch { start with cause := 0x8000000B }) (fun t => (t.resp, t.xfer))
      = some (.sideband 0x8000000B, .handlerCall (.ofSource .machineExternal)) ∧
    after (exec .dispatch { start with cause := 0x800000C8 }) State.xfer = some (.handlerCall .exceptionHandler) := by decide

/-! ## The hooks -/

theorem test_withFetchWord : after (step (State.withFetchWord start 16 0x0000)) State.mtime = some 10001 ∧
    after (step (State.withFetchWord start 40 0x40280043C)) (fun t => t.ie.getD 60 true) = some false ∧
    after (step (State.withFetchWord start 40 0x500000000)) State.gie = some false := by decide

theorem test_decodeTableWord : decodeTableWord 40 0x302004000 = some .mtimecmpRead ∧
    decodeTableWord 40 0x600000000 = some (.excReport 0) ∧ decodeTableWord 16 0x0800 = some (.irqTake 0) ∧
    decodeTableWord 32 0x80000036 = some .causeWatchdog ∧ decodeTableWord 16 0x1C00 = none := by decide

/-! ## Witnesses: for every statement with hypotheses, each clause's hypotheses are met -/

theorem witness_DecodeInvertsEncode : (Instr.lineHigh 1023).wf = true ∧ (Instr.causeUnknownIrq 0x7FFFFFFF).wf = true ∧
    (Instr.setupInterrupts 0xFFFFFFFC).wf = true ∧ (Instr.ipRead 0).wf = true := by decide

/-- The first and the last key of each banked row, and the fixed keys. -/
theorem witness_MmioRowsDecideTheKey :
    0x002800000#35 &&& 0x7FFFFFC00#35 = 0x002800000#35 ∧ 0x0028003FF#35 &&& 0x7FFFFFC00#35 = 0x002800000#35 ∧
    0x4028003FF#35 &&& 0x7FFFFFC00#35 = 0x402800000#35 ∧ 0x0028007FF#35 &&& 0x7FFFFFC00#35 = 0x002800400#35 ∧
    0x4028007FF#35 &&& 0x7FFFFFC00#35 = 0x402800400#35 := by decide

theorem witness_ReservedPatternsAreRefused_sideband :
    (asked (.sideband 0x800000000)).agenda = .request (.sideband 0x800000000) :: [] ∧
    8 ≤ ((0x800000000#36).extractLsb' 32 4).toNat ∧ 8 ≤ ((0xFFFFFFFFF#36).extractLsb' 32 4).toNat ∧
    (0x2FFFFFFFD#36).extractLsb' 32 4 = 2#4 ∧ (0x2FFFFFFFD#36).extractLsb' 0 2 ≠ 0#2 ∧
    ((0x7FFFFFFFF#36).extractLsb' 32 4).toNat < 8 := by decide
theorem witness_ReservedPatternsAreRefused_event :
    (asked (.event 0x1400)).agenda = .request (.event 0x1400) :: [] ∧ 5 ≤ ((0x1400#13).extractLsb' 10 3).toNat ∧
    start.nIrq ≤ ((0x0440#13).extractLsb' 0 10).toNat ∧
    ((0x0001#13).extractLsb' 10 3 = 0#3 ∧ (0x0001#13).extractLsb' 0 10 ≠ 0#10) ∧
    ((0x1007#13).extractLsb' 10 3 = 4#3 ∧ (0x1007#13).extractLsb' 0 10 = 7#10) ∧
    (((0x13FF#13).extractLsb' 10 3).toNat < 5 ∧ ((0x13FF#13).extractLsb' 10 3 = 0#3 → (0x13FF#13).extractLsb' 0 10 = 0#10) ∧
      ((0x13FF#13).extractLsb' 10 3 = 3#3 ∨ (0x13FF#13).extractLsb' 10 3 = 4#3 → (0x13FF#13).extractLsb' 0 10 ≠ 7#10)) := by
  decide
theorem witness_ReservedPatternsAreRefused_func :
    (asked (.func 0x300000000)).agenda = .request (.func 0x300000000) :: [] ∧ (0x300000000#34).extractLsb' 32 2 = 3#2 ∧
    ((0x100000010#34).extractLsb' 32 2 = 1#2 ∧ (0x100000010#34).extractLsb' 4 28 ≠ 0#28) ∧
    ((0x10000000E#34).extractLsb' 32 2 = 1#2 ∧ (0x10000000E#34).extractLsb' 0 4 = 14#4) ∧
    ((0x10000000F#34).extractLsb' 32 2 = 1#2 ∧ (0x10000000F#34).extractLsb' 4 28 = 0#28 ∧
      (0x10000000F#34).extractLsb' 0 4 ≠ 13#4 ∧ (0x10000000F#34).extractLsb' 0 4 ≠ 14#4) := by decide

theorem witness_StepRunsTheDecodedOperation :
    ((asked (.event 0)).agenda = .request (.event 0) :: [] ∧ op (.event 0) = some .tick) ∧
    (match decode (.mmio 0x302000000 0) with | .error (.busError a) => a == 0x02000000 | _ => false) = true ∧
    (State.calls { start with agenda := [.resume], calls := [[.gieSet]] } = [.gieSet] :: []) ∧
    (State.calls { start with agenda := [.resume], calls := [[.ieWrite 0 0, .gieSet]] } = (.ieWrite 0 0 :: .gieSet :: []) :: []) ∧
    start.agenda = [] := by decide

theorem witness_MmioPortIsMemReadAndMemWrite :
    (asked (.mmio 0x00280003F 0)).agenda = .request (.mmio 0x00280003F 0) :: [] ∧ (0x00280003F#35).getLsbD 34 = false ∧
    (0x40280043F#35).getLsbD 34 = true := by decide

/-- The last entry of a bank, on the small and on the largest block: the hypotheses of the statements about bank entries. -/
theorem witness_bankEntry : (63 : IrqNum).toNat < start.nIrq ∧ (1023 : IrqNum).toNat < bigStart.nIrq ∧ start.wf = true := by decide
theorem witness_bigStart_wf : bigStart.wf = true := by
  simp [State.wf_iff, bigStart, State.resetWith]
theorem witness_BankEntryImplementsOneBit : (0xFF : Byte).getLsbD 0 = (0x01 : Byte).getLsbD 0 := by decide
theorem witness_BankWriteChangesOneBit : (62 : IrqNum) ≠ 63 ∧ (62 : IrqNum).toNat < start.nIrq ∧
    State.irqIn { start with lines := start.lines.set 62 true } 62 = true ∧
    State.wf { start with lines := start.lines.set 62 true } = true := by decide
theorem witness_AccessBeyondTheBankIsABusError : start.nIrq ≤ 64 ∧ 64 ≤ 0x3FF ∧ start.nIrq ≤ 0x3FF ∧
    (asked (.mmio (mmioKey true 0 (BitVec.ofNat 32 (0x02800400 + 64))) 0)).agenda
      = .request (.mmio 0x402800440 0) :: [] ∧
    toIrq .gpio = some 60 ∧ Instr.ieWrite 0 0 ∈ setupRest 61 0 ∧ Instr.ipWrite 60 0 ∈ setupRest 61 0 := by decide
theorem witness_BankOperationsAnswerBusError : start.nIrq ≤ (64 : IrqNum).toNat := by decide
/-- Between the two reads another entry of the bank is written. -/
theorem witness_ReadsHaveNoSideEffect_runs :
    (∃ t u v, exec (.ieRead 63) (asked (.mmio 0x40280043E 1)) = .next t ∧ runSteps 1 t = .next u ∧ exec (.ieRead 63) u = .next v) ∧
    after (exec (.ieRead 63) (asked (.mmio 0x40280043E 1))) (opsAlongRun (writesEnable 63) 1) = some 0 ∧
    after (exec (.ieRead 63) (asked (.mmio 0x40280043E 1))) (opsAlongRun (writesEnable 62) 1) = some 1 ∧
    (∃ t u v, exec .mtimecmpRead (asked (.event 0)) = .next t ∧ runSteps 1 t = .next u ∧ exec .mtimecmpRead u = .next v) ∧
    after (exec .mtimecmpRead (asked (.event 0))) (opsAlongRun writesCompare 1) = some 0 :=
  ⟨⟨_, _, _, rfl, rfl, rfl⟩, by decide, by decide, ⟨_, _, _, rfl, rfl, rfl⟩, by decide⟩
theorem witness_ReadsHaveNoSideEffect :
    (∃ t t', exec (.ieRead 63) start = .next t ∧ exec (.ieRead 63) (pending 62) = .next t') ∧
    (pending 62).cfg = start.cfg ∧ (pending 62).ie.getD 63 false = start.ie.getD 63 false ∧
    (∃ t, exec .mtimecmpRead start = .next t) ∧
    (∃ t u v, exec .mtimeRead start = .next t ∧ exec .tick t = .next u ∧ exec .mtimeRead u = .next v) ∧
    State.irqIn { start with lines := start.lines.set 63 true } 63 = true ∧ start.ip.getD 63 false = false ∧
    State.wf { start with lines := start.lines.set 63 true } = true :=
  ⟨⟨_, _, rfl, rfl⟩, rfl, by decide, ⟨_, rfl⟩, ⟨_, _, _, rfl, rfl, rfl⟩, by decide, by decide, by decide⟩
theorem witness_MtimecmpWriteReplacesTheRegister : ∃ t, exec (.mtimecmpWrite 5) start = .next t := ⟨_, rfl⟩
theorem witness_LineSevenIsTheComparators : (63 : IrqNum) ≠ 7 ∧ (63 : IrqNum).toNat < start.nIrq ∧ start.wf = true := by decide

/-- `start` at the top of the counter with one read of `CAUSE` to come: a step, no `TICK`, no wrap. -/
def topOfCounter : State := { start with mtime := 0xFFFFFFFFFFFFFFFF, agenda := [.request (.sideband 0)] }
/-- `start` one below the top with one `TICK` to come. -/
def lastTick : State := { start with mtime := 0xFFFFFFFFFFFFFFFE, agenda := [.request (.event 0)] }

theorem witness_CounterNeverDecreases :
    (∃ t, step (asked (.event 0)) = .next t) ∧ (asked (.event 0)).wf = true ∧
    (∃ t, runSteps 1 topOfCounter = .next t) ∧ topOfCounter.mtime.toNat + opsAlongRun isTick 1 topOfCounter < 2 ^ 64 ∧
    (∃ t, runSteps 1 lastTick = .next t) ∧ lastTick.mtime.toNat + opsAlongRun isTick 1 lastTick < 2 ^ 64 ∧
    (∃ t u v, exec .mtimeRead topOfCounter = .next t ∧ runSteps 1 t = .next u ∧ exec .mtimeRead u = .next v) ∧
    after (exec .mtimeRead topOfCounter) (fun t => decide (t.mtime.toNat + opsAlongRun isTick 1 t < 2 ^ 64)) = some true :=
  ⟨⟨_, rfl⟩, by decide, ⟨_, rfl⟩, by decide, ⟨_, rfl⟩, by decide, ⟨_, _, _, rfl, rfl, rfl⟩, by decide⟩

theorem witness_TvecWriteInstallsADirectEntry : (0xFFFFFFFC#32).extractLsb' 0 2 = 0#2 ∧ (0xFFFFFFFD#32).extractLsb' 0 2 ≠ 0#2 := by
  decide
theorem witness_ExcReportEntersATrap : start.tvec.extractLsb' 0 2 = 0#2 ∧
    (State.tvec { start with tvec := 1 }).extractLsb' 0 2 ≠ 0#2 := by decide
theorem witness_TrapReturnPopsOneEntry : start.svc = [] ∧ (State.svc { pending 60 with svc := [.irq 60] } = .irq 60 :: []) ∧
    (60 : IrqNum).toNat < (pending 60).nIrq ∧ (pending 60).ie.getD 60 false = true ∧ (pending 60).ip.getD 60 false = true ∧
    (after (exec .trapReturn { pending 60 with svc := [.irq 60] }) State.gie = some true) := by decide
theorem witness_ExceptionInsideAHandlerIsAccepted : State.svc { start with svc := [.irq 20] } ≠ [] ∧
    start.tvec.extractLsb' 0 2 = 0#2 := by decide
theorem witness_LineEventsWriteTheLevel : (6 : IrqNum).toNat < start.nIrq ∧ (6 : IrqNum) ≠ 7 := by decide
theorem witness_LatchSetsThePendingFlag :
    State.irqIn { pending 63 with lines := start.lines.set 63 true } 63 = true ∧ (pending 63).ip.getD 63 false = true ∧
    start.irqIn 63 = false ∧ start.irqIn 7 = false ∧ State.irqIn { start with mtimecmp := 10000 } 7 = true := by decide
theorem witness_TakeRecordsTheInterrupt : (pending 63).takeable 63 = true ∧ (pending 63).tvec.extractLsb' 0 2 = 0#2 ∧
    State.takeable { pending 63 with tvec := 1 } 63 = true ∧ (1#32).extractLsb' 0 2 ≠ 0#2 ∧ start.takeable 63 = false := by decide
theorem witness_OutputsToTheProcessor : start.sameRegisters (start.answerFree true) := rfl
theorem witness_OneTrapAtATime : State.svc { pending 60 with svc := [.exc] } ≠ [] ∧ (pending 60).cfg.nesting = false ∧
    (∃ t, exec .tick (pending 60) = .next t) ∧ (pending 60).ip.getD 60 false = true ∧ Instr.tick.format = .e :=
  ⟨by decide, rfl, ⟨_, rfl⟩, by decide, rfl⟩
theorem witness_ClearedFlagReturnsOnlyByLatchOrWrite :
    State.irqIn { pending 60 with lines := start.lines.set 60 true } 60 = true ∧ start.ip.getD 60 false = false ∧
    after (exec (.ipWrite 60 0x81) start) (fun t => t.ip.getD 60 false) = some true ∧ (60 : IrqNum) ≠ 7 := by decide
theorem witness_UnclearedSourceIsTakenAgain :
    State.wf { pending 60 with svc := [.irq 60, .exc], cfg := { block with nesting := true, preemptPairs := [(.irq 60, .exc)] } }
      = true ∧
    State.serviceOrdered { pending 60 with
      svc := [.irq 60, .exc], cfg := { block with nesting := true, preemptPairs := [(.irq 60, .exc)] } } = true ∧
    State.wf { pending 60 with svc := [.irq 60] } = true ∧ (pending 60).gie = true := by decide

theorem witness_SourcesAndNumbersAreABijection : toIrq .pwm = some 50 ∧ Source.pwm ≠ .unknown := by decide
theorem witness_FromIrqNamesTheSource :
    (∃ row ∈ sourceRows, (60 : Word) = row.2.2.2) ∧ (∀ row ∈ sourceRows, (61 : Word) ≠ row.2.2.2) := by decide
theorem witness_DecodeSelectsThePath : (0x0000000B#32).getLsbD 31 = false ∧
    ((0x80000010#32).getLsbD 31 = true ∧ fromIrq (0x80000010#32 &&& 0x7FFFFFFF#32) = .unknown) ∧
    ((0x8000003C#32).getLsbD 31 = true ∧ fromIrq (0x8000003C#32 &&& 0x7FFFFFFF#32) ≠ .unknown) := by decide
theorem witness_DecoderDependsOnItsInputOnly : Source.gpio ≠ .unknown ∧ Instr.causeGpio.format = .c := by decide
theorem witness_CauseRowsAnswerTheirClass : ∀ row ∈ sourceRows, (61#31).setWidth 32 ≠ row.2.2.2 := by decide
theorem witness_CodesBelowThresholdReachThreeHandlers :
    (0x8000000F#32).getLsbD 31 = true ∧ (0x8000000F#32 &&& 0x7FFFFFFF#32).toNat < 16 := by decide
theorem witness_TryNewReportsTheTimeBase : timeless.cfg.fTick = none := rfl
theorem witness_TimeReadingsScaleTheCounter : (ticking 1000).cfg.fTick = some 1000 ∧ (ticking 999).cfg.fTick = some 999 ∧
    (ticking 1000000).cfg.fTick = some 1000000 ∧ (ticking 999999).cfg.fTick = some 999999 ∧ timeless.cfg.fTick = none := by decide
theorem witness_SetTimecmpWritesNowPlusDelay : start.cfg.fTick = some 32768 ∧
    State.calls { start with calls := [[.mtimecmpWrite 1]], agenda := [.resume] } = [.mtimecmpWrite 1] :: [] ∧
    State.agenda { start with agenda := [.request (.call (.setTimecmp 1000)), .resume] }
      = .request (.call (.setTimecmp 1000)) :: .resume :: [] := by decide
/-- `start` with a call of `setup_interrupts` carried to its end. -/
def settingUp : State :=
  State.withAgenda { start with boot := .fresh }
    (.request (.call (.setupInterrupts 0x23001000)) :: (List.replicate (2 * start.nIrq + 2) .resume ++ [.resume]))

theorem witness_SetupInterruptsLeavesTheBanksClear : settingUp.wf = true ∧ settingUp.boot = .fresh ∧ start.boot ≠ .fresh ∧
    settingUp.calls.any midSetup = false ∧ (0x23001000#32).extractLsb' 0 2 = 0#2 ∧
    settingUp.agenda = .request (.call (.setupInterrupts 0x23001000)) ::
      (List.replicate (2 * settingUp.nIrq + 2) .resume ++ [.resume]) ∧
    1 ≤ 2 * settingUp.nIrq + 2 := ⟨by decide, rfl, by decide, rfl, by decide, rfl, by decide⟩
/-- Each way to end the fresh phase, and a run after it. -/
theorem witness_SetupRunsAtMostOnceAndBeforeEnables :
    (∃ t, exec (.setupInterrupts 0x23001000) settingUp = .next t) ∧
    (∃ t, exec (.ieWrite 63 1) settingUp = .next t) ∧ (63 : IrqNum).toNat < settingUp.nIrq ∧ (1 : Byte).getLsbD 0 = true ∧
    (∃ t u, exec (.enableInterrupt .gpio) { (asked (.event 0)) with boot := .fresh } = .next t ∧ runSteps 1 t = .next u) ∧
    after (exec (.enableInterrupt .gpio) settingUp) State.boot = some .linesEnabled :=
  ⟨⟨_, rfl⟩, ⟨_, rfl⟩, by decide, by decide, ⟨_, _, rfl, rfl⟩, by decide⟩
theorem witness_DispatchCallsTheSelectedHandler :
    State.calls { start with calls := [[.trapReturn]], agenda := [.resume], svc := [.irq 60] } = [.trapReturn] :: [] ∧
    State.svc { start with calls := [[.trapReturn]], agenda := [.resume], svc := [.irq 60] } = .irq 60 :: [] := by decide
theorem witness_SoftwareNeverMeetsABusError : Instr.dispatch.format = .pseudo ∧ (∃ t, exec .dispatch start = .next t) ∧
    State.wf { start with calls := [[.ieWrite 63 0]], agenda := [.resume] } = true ∧
    (∃ t, step { start with calls := [[.ieWrite 63 0]], agenda := [.resume] } = .next t) :=
  ⟨rfl, ⟨_, rfl⟩, by decide, ⟨_, rfl⟩⟩

theorem witness_ResetClearsGieAndService : 60 < Config.platform.nIrq := Config.platform.nIrq_lower
/-- A step that runs, from a state that meets every invariant. -/
theorem witness_invariants : (asked (.sideband 0x600000002)).wf = true ∧ (asked (.sideband 0x600000002)).serviceOrdered = true ∧
    (asked (.sideband 0x600000002)).causeInRange = true ∧ modeIsDirect (asked (.sideband 0x600000002)).tvec = true ∧
    (∃ t, step (asked (.sideband 0x600000002)) = .next t) :=
  ⟨by decide, by decide, by decide, by decide, ⟨_, rfl⟩⟩
theorem witness_AtMostOneInterruptWithoutNesting : State.serviceOrdered { start with svc := [.exc, .exc, .irq 60] } = true ∧
    start.cfg.nesting = false := by decide
theorem witness_DirectModeStays : modeIsDirect (pending 60).tvec = true ∧ (pending 60).takeable 60 = true := by decide
theorem witness_RegistersHaveTheirWriters : ∃ t, exec (.excReport 2) start = .next t := ⟨_, rfl⟩
/-- An address on each side of the byte that is stored. -/
theorem witness_BytesOutsideTheStoredOnesAreUnchanged : (∃ t, exec (.ieWrite 63 1) start = .next t) ∧
    storedBytes (.ieWrite 63 1) = (0x0280043F, 1) ∧ ¬ (0x0280043F ≤ 0x02800440 ∧ 0x02800440 < 0x0280043F + 1) ∧
    ¬ (0x0280043F ≤ 0x0280043E ∧ 0x0280043E < 0x0280043F + 1) := ⟨⟨_, rfl⟩, by decide, by decide, by decide⟩

end Tests
end Sys2Proof
end

/-! Proofs about the registers, the lines and the outputs (spec/10_state.md): first what the operations on them answer, one
lemma per operation and case, then the obligations. -/
namespace Sys2Proof
namespace Machine

/-! ## Outcomes -/

theorem noNext_refused (r : Refusal) : noNext (.refused r) := by
  intro t h
  cases h

/-! ## Bank entries -/

theorem State.hasIrq_iff (s : State) (i : IrqNum) : s.hasIrq i = true ↔ i.toNat < s.nIrq :=
  decide_eq_true_iff

theorem bitByte_setWidth (b : Bool) : (bitByte b).setWidth 64 = (if b then 1 else 0 : DWord) := by
  cases b <;> rfl

/-- `IP_READ` of an entry that exists (R100). -/
theorem exec_ipRead_of_lt {s : State} {i : IrqNum} (h : i.toNat < s.nIrq) :
    exec (.ipRead i) s = .next (s.reply (.mmio (if s.ip.getD i.toNat false then 1 else 0) false)) := by
  rw [← bitByte_setWidth]
  exact if_pos ((s.hasIrq_iff i).2 h)

/-- `IE_READ` of an entry that exists (R102). -/
theorem exec_ieRead_of_lt {s : State} {i : IrqNum} (h : i.toNat < s.nIrq) :
    exec (.ieRead i) s = .next (s.reply (.mmio (if s.ie.getD i.toNat false then 1 else 0) false)) := by
  rw [← bitByte_setWidth]
  exact if_pos ((s.hasIrq_iff i).2 h)

/-- `IP_WRITE` of an entry that exists (R101). -/
theorem exec_ipWrite_of_lt {s : State} {i : IrqNum} (v : Byte) (h : i.toNat < s.nIrq) :
    exec (.ipWrite i v) s = .next ((s.writeIp i v).answerFree false) :=
  if_pos ((s.hasIrq_iff i).2 h)

/-- `IE_WRITE` of an entry that exists (R103). -/
theorem exec_ieWrite_of_lt {s : State} {i : IrqNum} (v : Byte) (h : i.toNat < s.nIrq) :
    exec (.ieWrite i v) s = .next ((s.writeIe i v).answerFree false) :=
  if_pos ((s.hasIrq_iff i).2 h)

/-- A write of a pending entry ignores bits 7 to 1 of the byte (R13). -/
theorem State.writeIp_eq_of_bit_zero (s : State) (i : IrqNum) {v v' : Byte} (h : v'.getLsbD 0 = v.getLsbD 0) :
    s.writeIp i v' = s.writeIp i v := by
  simp only [State.writeIp, bankWrite, h]

/-- A write of an enable entry ignores bits 7 to 1 of the byte (R13). -/
theorem State.writeIe_eq_of_bit_zero (s : State) (i : IrqNum) {v v' : Byte} (h : v'.getLsbD 0 = v.getLsbD 0) :
    s.writeIe i v' = s.writeIe i v := by
  simp only [State.writeIe, bankWrite, h]

/-- A pending entry reads back as bit 0 of what was written (R13). -/
theorem exec_ipRead_after_ipWrite {s : State} {i : IrqNum} (v : Byte) (hn : i.toNat < s.nIrq) (hl : i.toNat < s.ip.length) :
    ∃ t u, exec (.ipWrite i v) s = .next t ∧ exec (.ipRead i) t = .next u ∧
      u.resp = .mmio (if v.getLsbD 0 then 1 else 0) false := by
  refine ⟨_, _, exec_ipWrite_of_lt v hn, exec_ipRead_of_lt hn, ?_⟩
  rw [State.reply_resp, State.answerFree_ip, State.writeIp_ip, bankWrite_getD_self _ _ _ hl]

/-- An enable entry reads back as bit 0 of what was written (R13). -/
theorem exec_ieRead_after_ieWrite {s : State} {i : IrqNum} (v : Byte) (hn : i.toNat < s.nIrq) (hl : i.toNat < s.ie.length) :
    ∃ t u, exec (.ieWrite i v) s = .next t ∧ exec (.ieRead i) t = .next u ∧
      u.resp = .mmio (if v.getLsbD 0 then 1 else 0) false := by
  refine ⟨_, _, exec_ieWrite_of_lt v hn, exec_ieRead_of_lt hn, ?_⟩
  rw [State.reply_resp, State.answerFree_ie, State.writeIe_ie, bankWrite_getD_self _ _ _ hl]

/-- A bit as `rdata` is `0x00` or `0x01` (R13). -/
theorem mmio_bit_cases (b : Bool) :
    Response.mmio (if b then 1 else 0) false = .mmio 0x00 false ∨ Response.mmio (if b then 1 else 0) false = .mmio 0x01 false := by
  cases b
  · exact .inl rfl
  · exact .inr rfl

/-- Settles O10: the byte view is `byteAt_ip` and `byteAt_ie`, and each operation is taken at an entry that exists. -/
theorem bankEntryImplementsOneBit : Obligations.BankEntryImplementsOneBit := by
  intro i v s hwf hi
  obtain ⟨hie, hip, -, -, -⟩ := s.wf_iff.1 hwf
  refine ⟨⟨s.byteAt_ip i.toNat hi, s.byteAt_ie i.toNat hi⟩, exec_ipRead_after_ipWrite v hi (hip ▸ hi),
    exec_ieRead_after_ieWrite v hi (hie ▸ hi), ?ignored, ⟨_, exec_ipRead_of_lt hi, mmio_bit_cases _⟩,
    ⟨_, exec_ieRead_of_lt hi, mmio_bit_cases _⟩⟩
  case ignored =>
    intro v' hv
    rw [exec_ipWrite_of_lt v' hi, exec_ipWrite_of_lt v hi, exec_ieWrite_of_lt v' hi, exec_ieWrite_of_lt v hi,
      s.writeIp_eq_of_bit_zero i hv, s.writeIe_eq_of_bit_zero i hv]
    exact ⟨rfl, rfl⟩

/-! ## The outputs to the processor -/

/-- `trap_req` searches the lines by number; every line of the block has a 10-bit number (R7, R23). -/
theorem State.trapReq_iff (s : State) : s.trapReq = true ↔ ∃ i : IrqNum, i.toNat < s.nIrq ∧ s.takeable i = true := by
  simp only [State.trapReq, List.any_eq_true, List.mem_range]
  constructor
  · rintro ⟨n, hn, ht⟩
    have hmax : s.nIrq ≤ 1024 := s.cfg.nIrq_upper
    have htoNat : (BitVec.ofNat 10 n).toNat = n := Nat.mod_eq_of_lt (by omega)
    exact ⟨BitVec.ofNat 10 n, htoNat.symm ▸ hn, ht⟩
  · rintro ⟨i, hi, ht⟩
    refine ⟨i.toNat, hi, ?_⟩
    rwa [BitVec.ofNat_toNat, BitVec.setWidth_eq]

/-- Dropping the mode bits is masking them (R18). -/
theorem entryAddress_eq_and (w : Word) : entryAddress w = w &&& 0xFFFFFFFC#32 := by
  have hsplit : w.extractLsb' 2 30 ++ w.extractLsb' 0 2 = w := BitVec.extractLsb'_append_extractLsb'
  have hmask : 0xFFFFFFFC#32 = BitVec.allOnes 30 ++ 0#2 := rfl
  calc entryAddress w
      = (w.extractLsb' 2 30 &&& BitVec.allOnes 30) ++ (w.extractLsb' 0 2 &&& 0#2) := by
        rw [BitVec.and_allOnes, BitVec.and_zero, entryAddress]
    _ = w &&& 0xFFFFFFFC#32 := by rw [← BitVec.and_append, hsplit, ← hmask]

/-- Both outputs read registers only: the last answer, the last transfer and the count of free values do not enter (R23). -/
theorem State.outputs_eq_of_sameRegisters {s t : State} (h : s.sameRegisters t) :
    t.trapReq = s.trapReq ∧ t.trapTarget = s.trapTarget := by
  rw [State.sameRegisters] at h
  rw [h]
  exact ⟨rfl, rfl⟩

/-- Settles O30, one lemma per clause: the search over the lines, the mask, and the independence of what is no register. -/
theorem outputsToTheProcessor : Obligations.OutputsToTheProcessor :=
  ⟨State.trapReq_iff, fun s => entryAddress_eq_and s.tvec, fun _ _ => State.outputs_eq_of_sameRegisters⟩

/-! ## Lines -/

/-- Line 7 is the comparator's output (R22, R125). -/
theorem State.irqIn_seven_iff (s : State) : s.irqIn 7 = true ↔ s.mtimecmp.toNat ≤ s.mtime.toNat :=
  BitVec.ule_iff_toNat_le

/-- The line events are for the lines of the block that the environment drives, which line 7 is not (R22, R217, R218). -/
theorem lineEvent_guard_iff (s : State) (i : IrqNum) :
    (s.hasIrq i && environmentDrives i) = true ↔ i.toNat < s.nIrq ∧ i ≠ 7 := by
  rw [Bool.and_eq_true, s.hasIrq_iff, environmentDrives, bne_iff_ne, Config.timerLineNum]

/-- `LINE_HIGH` of an input of the block (R217). -/
theorem exec_lineHigh_of_lt {s : State} {i : IrqNum} (h : i.toNat < s.nIrq) (h7 : i ≠ 7) :
    exec (.lineHigh i) s = .next ((s.writeLine i true).reply .event) :=
  if_pos ((lineEvent_guard_iff s i).2 ⟨h, h7⟩)

/-- `LINE_LOW` of an input of the block (R218). -/
theorem exec_lineLow_of_lt {s : State} {i : IrqNum} (h : i.toNat < s.nIrq) (h7 : i ≠ 7) :
    exec (.lineLow i) s = .next ((s.writeLine i false).reply .event) :=
  if_pos ((lineEvent_guard_iff s i).2 ⟨h, h7⟩)

/-- Line 7 has no environment event (R22). -/
theorem exec_lineEvent_seven (s : State) :
    exec (.lineHigh 7) s = .refused .reservedEncoding ∧ exec (.lineLow 7) s = .refused .reservedEncoding := by
  have off : ¬ (s.hasIrq 7 && environmentDrives 7) = true := fun h => ((lineEvent_guard_iff s 7).1 h).2 rfl
  change execLineHigh 7 s = _ ∧ execLineLow 7 s = _
  rw [execLineHigh, execLineLow, if_neg off, if_neg off]
  exact ⟨rfl, rfl⟩

/-- The level of an input is what was written to it last (R21). -/
theorem State.irqIn_writeLine_self (s : State) {i : IrqNum} (b : Bool) (h7 : i ≠ 7) (h : i.toNat < s.lines.length) :
    (s.writeLine i b).irqIn i = b := by
  calc (s.writeLine i b).irqIn i
      = (s.lines.set i.toNat b).getD i.toNat false := if_neg h7
    _ = b := by rw [List.getD_eq_getElem?_getD, List.getElem?_set_self h, Option.getD_some]

/-- Settles O19, by its three clauses: line 7's level, its missing events, and every other line's two events. -/
theorem lineSevenIsTheComparators : Obligations.LineSevenIsTheComparators := by
  refine ⟨State.irqIn_seven_iff, fun s => ?noEvents, fun s i hwf h7 hi => ?inputs⟩
  case noEvents =>
    obtain ⟨hhigh, hlow⟩ := exec_lineEvent_seven s
    exact ⟨hhigh ▸ noNext_refused _, hlow ▸ noNext_refused _, rfl, rfl⟩
  case inputs =>
    obtain ⟨-, -, hlen, -, -⟩ := s.wf_iff.1 hwf
    exact ⟨⟨_, exec_lineHigh_of_lt hi h7, s.irqIn_writeLine_self true h7 (hlen ▸ hi)⟩,
      ⟨_, exec_lineLow_of_lt hi h7, s.irqIn_writeLine_self false h7 (hlen ▸ hi)⟩⟩

/-! ## Reset -/

/-- `IRQ_TAKE` completes only where the interrupt is takeable (R222). -/
theorem takeable_of_exec_irqTake {s t : State} {i : IrqNum} (h : exec (.irqTake i) s = .next t) : s.takeable i = true := by
  change execIrqTake i s = .next t at h
  unfold execIrqTake at h
  split at h
  · split at h
    · assumption
    · cases h
  · cases h

/-- With `GIE` clear no interrupt is takeable (R222). -/
theorem State.takeable_of_gie_false {s : State} (i : IrqNum) (h : s.gie = false) : s.takeable i = false := by
  simp [State.takeable, h]

/-- An entry of a bank after reset is the draw's entry (R34). -/
theorem State.resetWith_banks_getD (p : Config.Params) (d : ResetDraw) (i : Nat) (h : i < p.nIrq) :
    (State.resetWith p d).ie.getD i false = d.ie.getD i false ∧
      (State.resetWith p d).ip.getD i false = d.ip.getD i false :=
  ⟨bankOf_getD _ _ i h, bankOf_getD _ _ i h⟩

/-- Settles O49: the registers by reset's definition, the banks entry by entry, and no interrupt is taken because `GIE` is 0. -/
theorem resetClearsGieAndService : Obligations.ResetClearsGieAndService := by
  intro p d
  refine ⟨rfl, rfl, rfl, rfl, rfl, rfl, State.resetWith_banks_getD p d, fun i t ht => ?_⟩
  have htake := takeable_of_exec_irqTake ht
  rw [State.takeable_of_gie_false i (State.resetWith_gie p d)] at htake
  cases htake

end Machine
end Sys2Proof

/-! Proofs about the memory map (spec/20_memory.md). -/
namespace Sys2Proof
namespace Machine

/-! ## Requests -/

/-- A request that decodes runs its operation with the turn taken off the agenda (R55). -/
theorem step_of_decode {s : State} {r : Request} {rest : List Turn} {op : Instr}
    (hagenda : s.agenda = .request r :: rest) (hop : decode r = .ok op) : step s = exec op (s.withAgenda rest) := by
  have hfetch : fetch s = .run op (s.withAgenda rest) := by
    simp only [fetch, hagenda, fetchRequest, hop]
  rw [step, hfetch]

/-! ## One-byte accesses to a bank (R72) -/

/-- The bank operation of a direction and a bank. -/
def bankOp (we ie : Bool) (i : IrqNum) (v : Byte) : Instr :=
  match we, ie with
  | false, false => .ipRead i
  | true, false => .ipWrite i v
  | false, true => .ieRead i
  | true, true => .ieWrite i v

/-- The address bits above the index, which say the bank (R5, R78). -/
def bankPage (ie : Bool) : BitVec 22 := if ie then 0xA001 else 0xA000

/-- The address of entry `k` is the bank's page with the index below it. -/
theorem bankAddr_eq_page_append (ie : Bool) {k : Nat} (hk : k ≤ 0x3FF) :
    BitVec.ofNat 32 ((if ie then 0x02800400 else 0x02800000) + k) = bankPage ie ++ BitVec.ofNat 10 k := by
  apply BitVec.eq_of_toNat_eq
  rw [BitVec.toNat_append, ← Nat.shiftLeft_add_eq_or_of_lt (BitVec.isLt _), BitVec.toNat_ofNat, BitVec.toNat_ofNat]
  cases ie
  · change (0x02800000 + k) % 2 ^ 32 = 0x02800000 + k % 2 ^ 10
    omega
  · change (0x02800400 + k) % 2 ^ 32 = 0x02800400 + k % 2 ^ 10
    omega

/-- A row of R72 whose mask leaves out the index compares what stands above the index. -/
theorem hits_append_index (above value : BitVec 25) (i : IrqNum) :
    hits (above ++ i) (value ++ 0#10) (BitVec.allOnes 25 ++ 0#10) = (above == value) := by
  rw [hits, BitVec.and_append, BitVec.and_allOnes, BitVec.and_zero, Bool.eq_iff_iff, beq_iff_eq, beq_iff_eq,
    BitVec.append_left_inj]

/-- `{we, size, addr}` with its last ten bits apart. -/
theorem mmioKey_append_index (we : Bool) (size : BitVec 2) (page : BitVec 22) (i : IrqNum) :
    mmioKey we size (page ++ i) = (BitVec.ofBool we ++ size ++ page) ++ i := by
  have hassoc := BitVec.append_assoc (x₁ := BitVec.ofBool we ++ size) (x₂ := page) (x₃ := i)
  rw [hassoc, BitVec.cast_eq, mmioKey]

/-- A one-byte access in a bank's window decodes to that bank's operation at the index (R72). -/
theorem decode_bankAccess (we ie : Bool) (i : IrqNum) (wdata : DWord) :
    decode (.mmio (mmioKey we 0 (bankPage ie ++ i)) wdata) = .ok (bankOp we ie i (wdata.extractLsb' 0 8)) := by
  have hindex (above : BitVec 25) : lowIndex (above ++ i) = i := BitVec.extractLsb'_append_eq_right
  have hipRead (above : BitVec 25) : hits (above ++ i) 0x002800000#35 0x7FFFFFC00#35 = (above == 0x000A000#25) :=
    hits_append_index above 0x000A000#25 i
  have hipWrite (above : BitVec 25) : hits (above ++ i) 0x402800000#35 0x7FFFFFC00#35 = (above == 0x100A000#25) :=
    hits_append_index above 0x100A000#25 i
  have hieRead (above : BitVec 25) : hits (above ++ i) 0x002800400#35 0x7FFFFFC00#35 = (above == 0x000A001#25) :=
    hits_append_index above 0x000A001#25 i
  have hieWrite (above : BitVec 25) : hits (above ++ i) 0x402800400#35 0x7FFFFFC00#35 = (above == 0x100A001#25) :=
    hits_append_index above 0x100A001#25 i
  rw [mmioKey_append_index]
  change decodeMmio _ _ = _
  rw [decodeMmio, hipRead, hipWrite, hieRead, hieWrite, hindex]
  cases we <;> cases ie <;> rfl

/-! ## Entries the block does not have -/

theorem State.hasIrq_of_ge {s : State} {i : IrqNum} (h : s.nIrq ≤ i.toNat) : ¬ s.hasIrq i = true :=
  fun hi => absurd ((s.hasIrq_iff i).1 hi) (Nat.not_lt.2 h)

/-- Each bank operation beyond the bank answers the error response (R50, R100 to R103). -/
theorem exec_bankOp_of_ge (we ie : Bool) {s : State} {i : IrqNum} (v : Byte) (h : s.nIrq ≤ i.toNat) :
    exec (bankOp we ie i v) s = .next (s.answerFree true) := by
  cases we <;> cases ie <;> exact if_neg (State.hasIrq_of_ge h)

/-! ## The document's own indices -/

/-- The numbers of `TO_IRQ` end at 60 (R161). -/
theorem toIrq_toNat_le {src : Source} {n : Word} (h : toIrq src = some n) : n.toNat ≤ 60 := by
  cases src <;> cases h <;> decide

/-- The bank writes of the initialiser are to entries of the bank (R189). -/
theorem setupRest_index_lt {n : Nat} {entry : Word} (hn : n ≤ 1024) {op : Instr} (hop : op ∈ setupRest n entry)
    {i : IrqNum} {v : Byte} (hwrite : op = .ieWrite i v ∨ op = .ipWrite i v) : i.toNat < n := by
  obtain ⟨j, hj, rfl, -⟩ : ∃ j < n, BitVec.ofNat 10 j = i ∧ 0#8 = v := by
    rcases hwrite with rfl | rfl <;> simpa [setupRest] using hop
  rwa [BitVec.toNat_ofNat, Nat.mod_eq_of_lt (by omega)]

/-- Settles O12: the key decodes to the bank operation at the same index, which the block does not have. -/
theorem accessBeyondTheBankIsABusError : Obligations.AccessBeyondTheBankIsABusError := by
  refine ⟨?beyond, fun _ _ => toIrq_toNat_le, fun _ _ hn _ hop _ _ => setupRest_index_lt hn hop⟩
  case beyond =>
    intro s we ie k wdata rest hk hmax hagenda
    have hindex : (BitVec.ofNat 10 k).toNat = k := Nat.mod_eq_of_lt (by omega)
    rw [bankAddr_eq_page_append ie hmax] at hagenda
    rw [step_of_decode hagenda (decode_bankAccess we ie _ wdata)]
    exact exec_bankOp_of_ge we ie _ (hindex.symm ▸ hk)

/-! ## What an operation does to the registers -/

/-- The update an operation makes beneath its answer, one constructor for each way it can complete;
`unchanged` is for what only answers: reads, decoder functions, the error response. -/
inductive RegisterEffect (s : State) : Instr → State → Prop
  | unchanged (op : Instr) : RegisterEffect s op s
  | ipWrite {i : IrqNum} (v : Byte) : i.toNat < s.nIrq → RegisterEffect s (.ipWrite i v) (s.writeIp i v)
  | ieWrite {i : IrqNum} (v : Byte) : i.toNat < s.nIrq → RegisterEffect s (.ieWrite i v) (s.writeIe i v)
  | mtimecmpWrite (v : DWord) : RegisterEffect s (.mtimecmpWrite v) (s.writeMtimecmp v)
  | tvecWrite {w : Word} : modeIsDirect w = true → RegisterEffect s (.tvecWrite w) (s.writeTvec w)
  | gieSet : RegisterEffect s .gieSet (s.writeGie true)
  | gieClear : RegisterEffect s .gieClear (s.writeGie false)
  | excReport (code : BitVec 31) : modeIsDirect s.tvec = true →
      RegisterEffect s (.excReport code) (s.enterTrap (exceptionCause code) .exc)
  | trapReturn {e : SvcEntry} {rest : List SvcEntry} : s.svc = e :: rest → RegisterEffect s .trapReturn { s with svc := rest }
  | tick : RegisterEffect s .tick s.advanceMtime
  | irqLatch {i : IrqNum} : i.toNat < s.nIrq → s.irqIn i = true → RegisterEffect s (.irqLatch i) (s.latchIp i)
  | irqTake {i : IrqNum} : s.takeable i = true → modeIsDirect s.tvec = true →
      RegisterEffect s (.irqTake i) (s.enterTrap (interruptCause i) (.irq i))
  | lineHigh {i : IrqNum} : i.toNat < s.nIrq → i ≠ 7 → RegisterEffect s (.lineHigh i) (s.writeLine i true)
  | lineLow {i : IrqNum} : i.toNat < s.nIrq → i ≠ 7 → RegisterEffect s (.lineLow i) (s.writeLine i false)
  | enableInterrupt {src : Source} {n : Word} : toIrq src = some n →
      RegisterEffect s (.enableInterrupt src) (s.writeIe (BitVec.ofNat 10 n.toNat) 1)
  | disableInterrupt {src : Source} {n : Word} : toIrq src = some n →
      RegisterEffect s (.disableInterrupt src) (s.writeIe (BitVec.ofNat 10 n.toNat) 0)
  | clearInterrupt {src : Source} {n : Word} : toIrq src = some n →
      RegisterEffect s (.clearInterrupt src) (s.writeIp (BitVec.ofNat 10 n.toNat) 0)
  | setTimecmp (delay : DWord) {freq : Nat} : s.cfg.fTick = some freq →
      RegisterEffect s (.setTimecmp delay) (s.pushCall [.mtimecmpWrite (s.mtime + delay)])
  | setupInterrupts (entry : Word) : s.boot = .fresh →
      RegisterEffect s (.setupInterrupts entry) ((s.writeGie false).startSetup.pushCall (setupRest s.nIrq entry))
  | dispatch : RegisterEffect s .dispatch (s.pushCall [.trapReturn])

/-- An operation on a source completes only for a known one (R180 to R182). -/
theorem withIrq_eq_next {src : Source} {k : Word → Out} {t : State} :
    withIrq src k = .next t ↔ ∃ n, toIrq src = some n ∧ k n = .next t := by
  cases h : toIrq src <;> simp [withIrq, h]

/-- A time operation completes only where there is a time base (R183). -/
theorem State.withTimeBase_eq_next {s t : State} {k : Nat → Out} :
    s.withTimeBase k = .next t ↔ ∃ freq, s.cfg.fTick = some freq ∧ k freq = .next t := by
  cases h : s.cfg.fTick <;> simp [State.withTimeBase, h]

/-- The number of a source is a line of every block (R7). -/
theorem toIrq_lt_nIrq {src : Source} {n : Word} (h : toIrq src = some n) (s : State) : n.toNat < s.nIrq := by
  have hle : n.toNat ≤ 60 := toIrq_toNat_le h
  have hlower : 61 ≤ s.nIrq := s.cfg.nIrq_lower
  omega

/-- A completed operation has made its update and then answered. -/
theorem registerEffect_of_exec {op : Instr} {s t : State} (h : exec op s = .next t) :
    ∃ u, RegisterEffect s op u ∧ u.sameRegisters t := by
  cases op with
  | mtimeRead | mtimecmpRead | mtimeWrite | causeRead | tvecRead | gieRead | fromIrq | decodeCause | causeException
  | causeMachineSoft | causeMachineTimer | causeMachineExternal | causeDma | causeSpi | causeUart0 | causeUart1 | causeI2c
  | causePwm | causeTimerCh0 | causeTimerCh1 | causeWatchdog | causeGpio | causeUnknownIrq | tryNew =>
    cases h
    exact ⟨s, .unchanged _, rfl⟩
  | ipRead | ieRead | toIrq =>
    simp only [exec, execIpRead, execIeRead, execToIrq] at h
    split at h <;> cases h <;> exact ⟨s, .unchanged _, rfl⟩
  | ipWrite i v =>
    simp only [exec, execIpWrite] at h
    split at h <;> cases h
    · exact ⟨_, .ipWrite v ((s.hasIrq_iff i).1 ‹_›), rfl⟩
    · exact ⟨s, .unchanged _, rfl⟩
  | ieWrite i v =>
    simp only [exec, execIeWrite] at h
    split at h <;> cases h
    · exact ⟨_, .ieWrite v ((s.hasIrq_iff i).1 ‹_›), rfl⟩
    · exact ⟨s, .unchanged _, rfl⟩
  | mtimecmpWrite v => cases h; exact ⟨_, .mtimecmpWrite v, rfl⟩
  | gieSet => cases h; exact ⟨_, .gieSet, rfl⟩
  | gieClear => cases h; exact ⟨_, .gieClear, rfl⟩
  | tick => cases h; exact ⟨_, .tick, rfl⟩
  | dispatch => cases h; exact ⟨_, .dispatch, rfl⟩
  | tvecWrite w =>
    simp only [exec, execTvecWrite] at h
    split at h <;> cases h
    exact ⟨_, .tvecWrite ‹_›, rfl⟩
  | excReport code =>
    obtain ⟨hdirect, rfl⟩ := State.takeTrap_eq_next.1 h
    exact ⟨_, .excReport code hdirect, rfl⟩
  | trapReturn =>
    simp only [exec, execTrapReturn] at h
    split at h <;> cases h
    obtain ⟨e, rest, hsvc, rfl⟩ := State.leaveTrap_eq_some.1 ‹_›
    exact ⟨_, .trapReturn hsvc, rfl⟩
  | irqLatch i =>
    simp only [exec, execIrqLatch] at h
    split at h
    · split at h <;> cases h
      exact ⟨_, .irqLatch ((s.hasIrq_iff i).1 ‹_›) ‹_›, rfl⟩
    · cases h
  | irqTake i =>
    have htake := takeable_of_exec_irqTake h
    simp only [exec, execIrqTake] at h
    split at h
    · obtain ⟨hdirect, rfl⟩ := State.takeTrap_eq_next.1 h
      exact ⟨_, .irqTake htake hdirect, rfl⟩
    · cases h
  | lineHigh i =>
    simp only [exec, execLineHigh] at h
    split at h <;> cases h
    obtain ⟨hi, h7⟩ := (lineEvent_guard_iff s i).1 ‹_›
    exact ⟨_, .lineHigh hi h7, rfl⟩
  | lineLow i =>
    simp only [exec, execLineLow] at h
    split at h <;> cases h
    obtain ⟨hi, h7⟩ := (lineEvent_guard_iff s i).1 ‹_›
    exact ⟨_, .lineLow hi h7, rfl⟩
  | enableInterrupt src =>
    obtain ⟨n, hn, hwrite⟩ := withIrq_eq_next.1 h
    rw [s.writeTransaction_ie n.toNat _ (toIrq_lt_nIrq hn s)] at hwrite
    cases hwrite
    exact ⟨_, .enableInterrupt hn, rfl⟩
  | disableInterrupt src =>
    obtain ⟨n, hn, hwrite⟩ := withIrq_eq_next.1 h
    rw [s.writeTransaction_ie n.toNat _ (toIrq_lt_nIrq hn s)] at hwrite
    cases hwrite
    exact ⟨_, .disableInterrupt hn, rfl⟩
  | clearInterrupt src =>
    obtain ⟨n, hn, hwrite⟩ := withIrq_eq_next.1 h
    rw [s.writeTransaction_ip n.toNat _ (toIrq_lt_nIrq hn s)] at hwrite
    cases hwrite
    exact ⟨_, .clearInterrupt hn, rfl⟩
  | getTicks =>
    obtain ⟨freq, -, hread⟩ := State.withTimeBase_eq_next.1 h
    cases hread
    exact ⟨s, .unchanged _, rfl⟩
  | getTimeMs | getTimeUs =>
    obtain ⟨freq, -, hread⟩ := State.withTimeBase_eq_next.1 h
    rw [State.readScaled, State.readThen_mtime] at hread
    split at hread <;> cases hread
    exact ⟨s, .unchanged _, rfl⟩
  | setTimecmp delay =>
    obtain ⟨freq, hfreq, hread⟩ := State.withTimeBase_eq_next.1 h
    cases hread
    exact ⟨_, .setTimecmp delay hfreq, rfl⟩
  | setupInterrupts entry =>
    simp only [exec, execSetupInterrupts] at h
    split at h <;> cases h
    exact ⟨_, .setupInterrupts entry ‹_›, rfl⟩

/-! ## What a run without a writer of a register does to it -/

theorem RegisterEffect.cfg_eq {s u : State} {op : Instr} (h : RegisterEffect s op u) : u.cfg = s.cfg := by
  cases h <;> rfl

/-- Only a write of the compare register changes it (R16). -/
theorem RegisterEffect.mtimecmp_eq {s u : State} {op : Instr} (h : RegisterEffect s op u)
    (hother : writesCompare op = false) : u.mtimecmp = s.mtimecmp := by
  cases h with
  | mtimecmpWrite v => cases hother
  | _ => rfl

/-- An operation on another source's line has another index (R161). -/
theorem index_ne_of_toIrq {src : Source} {n : Word} {i : IrqNum} (hn : toIrq src = some n)
    (hother : (toIrq src == some (i.setWidth 32)) = false) : (BitVec.ofNat 10 n.toNat).toNat ≠ i.toNat := by
  have hle : n.toNat ≤ 60 := toIrq_toNat_le hn
  intro heq
  have hnumber : n = i.setWidth 32 := by
    apply BitVec.eq_of_toNat_eq
    rw [BitVec.toNat_ofNat] at heq
    rw [BitVec.toNat_setWidth]
    omega
  simp [hn, hnumber] at hother

/-- Only a write of an enable entry changes it (R11). -/
theorem RegisterEffect.ie_getD_eq {s u : State} {op : Instr} (h : RegisterEffect s op u) {i : IrqNum}
    (hother : writesEnable i op = false) : u.ie.getD i.toNat false = s.ie.getD i.toNat false := by
  cases h with
  | @ieWrite j v _ =>
    have hne : j ≠ i := by simpa [writesEnable] using hother
    exact bankWrite_getD_of_ne _ _ _ _ (fun heq => hne (BitVec.eq_of_toNat_eq heq))
  | enableInterrupt hn => exact bankWrite_getD_of_ne _ _ _ _ (index_ne_of_toIrq hn hother)
  | disableInterrupt hn => exact bankWrite_getD_of_ne _ _ _ _ (index_ne_of_toIrq hn hother)
  | _ => rfl

/-- `f` reads neither an answer nor the bookkeeping of a run that every step advances. -/
def readsRegisters {α : Type} (f : State → α) : Prop :=
  ∀ (s : State) (r : Response) (x : Transfer) (a : List Turn) (c : List (List Instr)) (n : Nat),
    f { s with resp := r, xfer := x, agenda := a, calls := c, freeCount := n } = f s

section
variable {α : Type} {f : State → α} {p : Instr → Bool}

/-- What only the operations of a kind change, a step of another kind keeps. -/
theorem step_keeps (hreads : readsRegisters f)
    (heffect : ∀ (s u : State) (op : Instr), RegisterEffect s op u → p op = false → f u = f s)
    {s t : State} (hstep : step s = .next t) (hother : s.nextOp.any p = false) : f t = f s := by
  rcases step_nextOp_cases hstep with ⟨op, a, c, hop, hexec⟩ | ⟨-, a, rfl⟩
  · obtain ⟨u, hu, hsame⟩ := registerEffect_of_exec hexec
    rw [hop, Option.any_some] at hother
    calc f t
        = f u := (congrArg f hsame).trans (hreads u t.resp t.xfer u.agenda u.calls t.freeCount)
      _ = f { s with agenda := a, calls := c } := heffect _ u op hu hother
      _ = f s := hreads s s.resp s.xfer a c s.freeCount
  · exact hreads s _ .stay a s.calls (s.freeCount + 1)

/-- The same along a run. -/
theorem runSteps_keeps (hreads : readsRegisters f)
    (heffect : ∀ (s u : State) (op : Instr), RegisterEffect s op u → p op = false → f u = f s)
    {k : Nat} {s t : State} (hrun : runSteps k s = .next t) (hother : opsAlongRun p k s = 0) : f t = f s := by
  induction k generalizing s with
  | zero => cases hrun; rfl
  | succ k ih =>
    cases hstep : step s with
    | next u =>
      simp only [runSteps, hstep] at hrun
      rw [opsAlongRun_succ p k hstep, Nat.add_eq_zero_iff] at hother
      obtain ⟨hfirst, hrest⟩ := hother
      have hnext : s.nextOp.any p = false := by simpa using hfirst
      exact (ih hrun hrest).trans (step_keeps hreads heffect hstep hnext)
    | fault => simp only [runSteps, hstep] at hrun; cases hrun
    | refused => simp only [runSteps, hstep] at hrun; cases hrun
end

/-! ## Reads (R52) -/

/-- A read changes no register, and ends in the error response at worst. -/
theorem exec_read_sameRegisters (s : State) {op : Instr}
    (hread : (∃ i, op = .ipRead i) ∨ (∃ i, op = .ieRead i) ∨ op = .mtimeRead ∨ op = .mtimecmpRead) :
    ∃ t, exec op s = .next t ∧ s.sameRegisters t := by
  rcases hread with ⟨i, rfl⟩ | ⟨i, rfl⟩ | rfl | rfl
  · rcases Nat.lt_or_ge i.toNat s.nIrq with hi | hi
    · exact ⟨_, exec_ipRead_of_lt hi, rfl⟩
    · exact ⟨_, exec_bankOp_of_ge false false 0 hi, rfl⟩
  · rcases Nat.lt_or_ge i.toNat s.nIrq with hi | hi
    · exact ⟨_, exec_ieRead_of_lt hi, rfl⟩
    · exact ⟨_, exec_bankOp_of_ge false true 0 hi, rfl⟩
  · exact ⟨_, rfl, rfl⟩
  · exact ⟨_, rfl, rfl⟩

/-- A read of an enable entry depends on that entry alone. -/
theorem ieRead_resp_congr {s s' t t' : State} {i : IrqNum} (hi : i.toNat < s.nIrq) (hcfg : s'.cfg = s.cfg)
    (hentry : s'.ie.getD i.toNat false = s.ie.getD i.toNat false)
    (h : exec (.ieRead i) s = .next t) (h' : exec (.ieRead i) s' = .next t') : t'.resp = t.resp := by
  have hi' : i.toNat < s'.nIrq := by rwa [State.nIrq, hcfg]
  cases (exec_ieRead_of_lt hi).symm.trans h
  cases (exec_ieRead_of_lt hi').symm.trans h'
  rw [State.reply_resp, State.reply_resp, hentry]

/-- A read of the compare register depends on that register alone. -/
theorem mtimecmpRead_resp_congr {s s' t t' : State} (hcompare : s'.mtimecmp = s.mtimecmp)
    (h : exec .mtimecmpRead s = .next t) (h' : exec .mtimecmpRead s' = .next t') : t'.resp = t.resp := by
  cases h
  cases h'
  exact congrArg (Response.mmio · false) hcompare

/-- Two reads of an enable entry agree along a run that does not write it. -/
theorem ieRead_repeatable {k : Nat} {s t u v : State} {i : IrqNum} (hi : i.toNat < s.nIrq)
    (hfirst : exec (.ieRead i) s = .next t) (hrun : runSteps k t = .next u) (hother : opsAlongRun (writesEnable i) k t = 0)
    (hsecond : exec (.ieRead i) u = .next v) : v.resp = t.resp := by
  have hcfg : u.cfg = t.cfg :=
    runSteps_keeps (f := State.cfg) (fun _ _ _ _ _ _ => rfl) (fun _ _ _ h _ => h.cfg_eq) hrun hother
  have hentry : u.ie.getD i.toNat false = t.ie.getD i.toNat false :=
    runSteps_keeps (f := fun s => s.ie.getD i.toNat false) (fun _ _ _ _ _ _ => rfl) (fun _ _ _ h => h.ie_getD_eq) hrun hother
  have hread := exec_ieRead_of_lt hi
  cases hread.symm.trans hfirst
  exact ieRead_resp_congr hi hcfg hentry hread hsecond

/-- Two reads of the compare register agree along a run that does not write it. -/
theorem mtimecmpRead_repeatable {k : Nat} {s t u v : State} (hfirst : exec .mtimecmpRead s = .next t)
    (hrun : runSteps k t = .next u) (hother : opsAlongRun writesCompare k t = 0)
    (hsecond : exec .mtimecmpRead u = .next v) : v.resp = t.resp := by
  have hcompare : u.mtimecmp = t.mtimecmp :=
    runSteps_keeps (f := State.mtimecmp) (fun _ _ _ _ _ _ => rfl) (fun _ _ _ h => h.mtimecmp_eq) hrun hother
  cases hfirst
  exact mtimecmpRead_resp_congr hcompare rfl hsecond

/-- A `TICK` between two reads of the counter shows. -/
theorem mtimeRead_after_tick {s t u v : State} (hfirst : exec .mtimeRead s = .next t) (htick : exec .tick t = .next u)
    (hsecond : exec .mtimeRead u = .next v) : v.resp ≠ t.resp := by
  cases hfirst
  cases htick
  cases hsecond
  intro heq
  have hvalue : s.mtime + 1 = s.mtime := (Response.mmio.inj heq).1
  simp at hvalue

/-- `IRQ_LATCH` of a line that is high (R219). -/
theorem exec_irqLatch_of_high {s : State} {i : IrqNum} (hi : i.toNat < s.nIrq) (hhigh : s.irqIn i = true) :
    exec (.irqLatch i) s = .next ((s.latchIp i).reply .event) :=
  (if_pos ((s.hasIrq_iff i).2 hi)).trans (if_pos hhigh)

/-- A latch between two reads of a pending entry shows. -/
theorem ipRead_after_irqLatch {s : State} {i : IrqNum} (hwf : s.wf = true) (hi : i.toNat < s.nIrq)
    (hhigh : s.irqIn i = true) (hclear : s.ip.getD i.toNat false = false) :
    ∃ t u v, exec (.ipRead i) s = .next t ∧ exec (.irqLatch i) t = .next u ∧ exec (.ipRead i) u = .next v ∧
      t.resp = .mmio 0 false ∧ v.resp = .mmio 1 false := by
  obtain ⟨-, hlen, -, -, -⟩ := s.wf_iff.1 hwf
  have hset : (s.ip.set i.toNat true).getD i.toNat false = true := by
    rw [set_true_getD _ _ _ (hlen ▸ hi), decide_eq_true rfl, Bool.true_or]
  refine ⟨_, _, _, exec_ipRead_of_lt hi, exec_irqLatch_of_high hi hhigh, exec_ipRead_of_lt hi, ?_, ?_⟩
  · rw [State.reply_resp, hclear]; rfl
  · simp only [State.reply_resp, State.reply_ip, State.latchIp_ip, hset, if_true]

/-! ## Repeated writes (R52) -/

theorem bankWrite_bankWrite (b : List Bool) (i : Nat) (v : Byte) : bankWrite (bankWrite b i v) i v = bankWrite b i v :=
  List.set_set _

theorem Boot.afterEnable_afterEnable (b : Boot) (on : Bool) : (b.afterEnable on).afterEnable on = b.afterEnable on := by
  cases b <;> cases on <;> rfl

/-- A write repeated leaves the registers the first one left. -/
theorem exec_write_repeated (s : State) {op : Instr}
    (hwrite : (∃ i v, op = .ipWrite i v) ∨ (∃ i v, op = .ieWrite i v) ∨ ∃ v, op = .mtimecmpWrite v) :
    ∃ t u, exec op s = .next t ∧ exec op t = .next u ∧ t.sameRegisters u := by
  rcases hwrite with ⟨i, v, rfl⟩ | ⟨i, v, rfl⟩ | ⟨v, rfl⟩
  · rcases Nat.lt_or_ge i.toNat s.nIrq with hi | hi
    · refine ⟨_, _, exec_ipWrite_of_lt v hi, exec_ipWrite_of_lt v hi, ?_⟩
      simp [State.sameRegisters, State.writeIp, State.answerFree, State.reply, bankWrite_bankWrite]
    · exact ⟨_, _, exec_bankOp_of_ge true false v hi, exec_bankOp_of_ge true false v hi, rfl⟩
  · rcases Nat.lt_or_ge i.toNat s.nIrq with hi | hi
    · refine ⟨_, _, exec_ieWrite_of_lt v hi, exec_ieWrite_of_lt v hi, ?_⟩
      simp [State.sameRegisters, State.writeIe, State.answerFree, State.reply, bankWrite_bankWrite,
        Boot.afterEnable_afterEnable]
    · exact ⟨_, _, exec_bankOp_of_ge true true v hi, exec_bankOp_of_ge true true v hi, rfl⟩
  · exact ⟨_, _, rfl, rfl, rfl⟩

/-- Settles O14, one lemma per clause: a run keeps what none of its operations write, and each read answers one register. -/
theorem readsHaveNoSideEffect : Obligations.ReadsHaveNoSideEffect :=
  ⟨fun s _ => exec_read_sameRegisters s,
    fun _ _ _ _ _ _ hi => ieRead_repeatable hi,
    fun _ _ _ _ _ => mtimecmpRead_repeatable,
    fun _ _ _ _ _ hi => ieRead_resp_congr hi,
    fun _ _ _ _ => mtimecmpRead_resp_congr,
    fun _ _ _ _ => mtimeRead_after_tick,
    fun _ _ => ipRead_after_irqLatch,
    fun s _ => exec_write_repeated s⟩

end Machine
end Sys2Proof

/-! Proofs about the encodings (spec/30_encoding.md): a row compares one field, so each format's decoder fails on the fields
R82 lists and nowhere else. -/
namespace Sys2Proof
namespace Machine

/-! ## Rows and fields -/

/-- A mask of the bits of a field. -/
theorem getLsbD_fieldMask {w i : Nat} (start len : Nat) (hi : i < w) :
    ((BitVec.allOnes len).setWidth w <<< start).getLsbD i = decide (start ≤ i ∧ i - start < len) := by
  rw [BitVec.getLsbD_shiftLeft, BitVec.getLsbD_setWidth, BitVec.getLsbD_allOnes, Bool.eq_iff_iff]
  simp only [Bool.and_eq_true, Bool.not_eq_true', decide_eq_true_eq, decide_eq_false_iff_not]
  omega

/-- A row whose mask covers one field compares that field (R72); `hvalue` says that the match has no bit outside the mask. -/
theorem hits_iff_field {w : Nat} {x value mask : BitVec w} (start len : Nat) (hwidth : start + len ≤ w)
    (hmask : mask = (BitVec.allOnes len).setWidth w <<< start) (hvalue : value &&& mask = value) :
    hits x value mask = true ↔ x.extractLsb' start len = value.extractLsb' start len := by
  have hfield {i : Nat} (hi : i < w) : mask.getLsbD i = decide (start ≤ i ∧ i - start < len) :=
    hmask ▸ getLsbD_fieldMask start len hi
  rw [hits, beq_iff_eq]
  constructor
  · intro h
    ext i hi
    have hbit := congrArg (BitVec.getLsbD · (start + i)) h
    have hw : start + i < w := by omega
    simpa [hfield hw, hi] using hbit
  · intro h
    rw [← hvalue]
    apply BitVec.eq_of_getLsbD_eq
    intro i hi
    rw [BitVec.getLsbD_and, BitVec.getLsbD_and, hfield hi]
    by_cases hin : start ≤ i ∧ i - start < len
    · obtain ⟨hstart, hlen⟩ := hin
      have hbit := congrArg (BitVec.getLsbD · (i - start)) h
      have hx : x.getLsbD i = value.getLsbD i := by
        simpa [BitVec.getLsbD_extractLsb', hlen, Nat.add_sub_of_le hstart] using hbit
      rw [hx]
    · rw [decide_eq_false hin, Bool.and_false, Bool.and_false]

/-- The rows of R73 compare `cmd`. -/
theorem hits_iff_cmd {x value : BitVec 36} (hvalue : value &&& 0xF00000000#36 = value) :
    hits x value 0xF00000000#36 = true ↔ x.extractLsb' 32 4 = value.extractLsb' 32 4 :=
  hits_iff_field 32 4 (by decide) rfl hvalue

/-- The rows of R74 after the first compare `kind`. -/
theorem hits_iff_kind {x value : BitVec 13} (hvalue : value &&& 0x1C00#13 = value) :
    hits x value 0x1C00#13 = true ↔ x.extractLsb' 10 3 = value.extractLsb' 10 3 :=
  hits_iff_field 10 3 (by decide) rfl hvalue

/-- The row of `TICK` compares `kind` and `idx` (R74). -/
theorem hits_tick_iff {x : BitVec 13} :
    hits x 0x0000#13 0x1FFF#13 = true ↔ x.extractLsb' 10 3 = 0#3 ∧ x.extractLsb' 0 10 = 0#10 := by
  have hall : x &&& 0x1FFF#13 = x := BitVec.and_allOnes
  have hlt : x.toNat < 2 ^ 13 := x.isLt
  rw [hits, hall, beq_iff_eq, ← BitVec.toNat_inj, ← BitVec.toNat_inj, ← BitVec.toNat_inj, BitVec.extractLsb'_toNat,
    BitVec.extractLsb'_toNat, Nat.shiftRight_eq_div_pow, Nat.shiftRight_zero]
  change x.toNat = 0 ↔ x.toNat / 2 ^ 10 % 2 ^ 3 = 0 ∧ x.toNat % 2 ^ 10 = 0
  omega

/-- The rows of R75 compare `fn`. -/
theorem hits_iff_fn {x value : BitVec 34} (hvalue : value &&& 0x300000000#34 = value) :
    hits x value 0x300000000#34 = true ↔ x.extractLsb' 32 2 = value.extractLsb' 32 2 :=
  hits_iff_field 32 2 (by decide) rfl hvalue

/-- The bits of `TO_IRQ`'s operand above the id (R75). -/
theorem hits_aboveId_iff {x : BitVec 34} : hits x 0#34 0x0FFFFFFF0#34 = true ↔ x.extractLsb' 4 28 = 0#28 :=
  hits_iff_field 4 28 (by decide) rfl rfl

/-! ## Where a decoder fails (R82) -/

/-- A decoder fails where a row is not hit and the rows after it fail. -/
theorem row_eq_error_iff {c : Prop} [Decidable c] {op : Instr} {others : Decoded} {e : DecodeError} :
    (if c then .ok op else others) = .error e ↔ ¬ c ∧ others = .error e := by
  by_cases hc : c <;> simp [hc]

theorem exists_ok_of_ne_error {d : Decoded} (h : ∀ e, d ≠ .error e) : ∃ op, d = .ok op := by
  cases d with
  | ok op => exact ⟨op, rfl⟩
  | error e => exact absurd rfl (h e)

/-- Format S: every command below 8 has a row. -/
theorem decodeSideband_eq_error_iff {x : BitVec 36} {e : DecodeError} :
    decodeSideband x = .error e ↔ 8 ≤ (x.extractLsb' 32 4).toNat ∧ e = .reservedEncoding := by
  simp (disch := decide) only [decodeSideband, row_eq_error_iff, hits_iff_cmd, Except.error.injEq, BitVec.reduceExtractLsb',
    eq_comm (b := e)]
  generalize x.extractLsb' 32 4 = cmd
  simp only [← and_assoc]
  refine and_congr_left' ?_
  bv_omega

/-- Format E: no row has a kind from 5 on, `TICK` has the index 0 only, and the line events have every index but 7. -/
theorem decodeEvent_eq_error_iff {x : BitVec 13} {e : DecodeError} :
    decodeEvent x = .error e ↔
      (5 ≤ (x.extractLsb' 10 3).toNat ∨ (x.extractLsb' 10 3 = 0#3 ∧ x.extractLsb' 0 10 ≠ 0#10) ∨
        ((x.extractLsb' 10 3 = 3#3 ∨ x.extractLsb' 10 3 = 4#3) ∧ x.extractLsb' 0 10 = 7#10)) ∧ e = .reservedEncoding := by
  simp (disch := decide) only [decodeEvent, row_eq_error_iff, hits_tick_iff, hits_iff_kind, lowIndex, environmentDrives,
    Config.timerLineNum, Bool.and_eq_true, bne_iff_ne, Except.error.injEq, BitVec.reduceExtractLsb', eq_comm (b := e)]
  generalize x.extractLsb' 10 3 = kind
  generalize x.extractLsb' 0 10 = idx
  simp only [← and_assoc]
  refine and_congr_left' ?_
  bv_omega

/-- The ids 13 and 14 name no source (R77). -/
theorem sourceOfId_eq_none_iff {n : BitVec 4} : Source.ofId n = none ↔ n = 13#4 ∨ n = 14#4 := by
  revert n
  decide

/-- Format F: no row has the function 3, and `TO_IRQ` has the operands that are ids of sources. -/
theorem decodeFunc_eq_error_iff {x : BitVec 34} {e : DecodeError} :
    decodeFunc x = .error e ↔
      (x.extractLsb' 32 2 = 3#2 ∨ (x.extractLsb' 32 2 = 1#2 ∧
        (x.extractLsb' 4 28 ≠ 0#28 ∨ x.extractLsb' 0 4 = 13#4 ∨ x.extractLsb' 0 4 = 14#4))) ∧ e = .reservedEncoding := by
  simp (disch := decide) only [decodeFunc, row_eq_error_iff, hits_iff_fn, hits_aboveId_iff, ← sourceOfId_eq_none_iff,
    BitVec.reduceExtractLsb']
  generalize x.extractLsb' 32 2 = fn
  by_cases hto : fn = 1#2
  · by_cases habove : x.extractLsb' 4 28 = 0#28
    · cases hid : Source.ofId (x.extractLsb' 0 4) <;> simp [hto, habove, eq_comm]
    · simp [hto, habove, eq_comm]
  · have hfn : fn = 3#2 ↔ fn ≠ 0#2 ∧ fn ≠ 2#2 := by bv_omega
    simp only [hto, hfn, if_false, false_and, or_false, row_eq_error_iff, and_assoc, ne_eq, Except.error.injEq,
      eq_comm (b := e)]

/-! ## What the step answers (R82) -/

/-- A request without a meaning is refused by that name. -/
theorem step_of_reserved {s : State} {r : Request} {rest : List Turn} (hagenda : s.agenda = .request r :: rest)
    (hreserved : decode r = .error .reservedEncoding) : step s = .refused .reservedEncoding := by
  have hfetch : fetch s = .refused .reservedEncoding := by
    simp only [fetch, hagenda, fetchRequest, hreserved]
  rw [step, hfetch]

/-- `TVEC_WRITE` has the command 2 (R73). -/
theorem decodeSideband_of_cmd_two {x : BitVec 36} (hcmd : x.extractLsb' 32 4 = 2#4) :
    decodeSideband x = .ok (.tvecWrite (lowWord x)) := by
  simp (disch := decide) [decodeSideband, hits_iff_cmd, hcmd]

/-- `TVEC_WRITE` of a reserved mode (R143). -/
theorem exec_tvecWrite_of_reserved {w : Word} (s : State) (hmode : w.extractLsb' 0 2 ≠ 0#2) :
    exec (.tvecWrite w) s = .refused .reservedTvecMode :=
  if_neg (fun hdirect => hmode (eq_of_beq hdirect))

/-- The mode field of `arg`, as the command word carries it. -/
theorem lowWord_mode (x : BitVec 36) : (lowWord x).extractLsb' 0 2 = x.extractLsb' 0 2 := by
  simp [lowWord]

/-- The events: `TICK` at index 0, and four kinds that take an index. -/
theorem decodeEvent_ok_cases {x : BitVec 13} {op : Instr} (h : decodeEvent x = .ok op) :
    (op = .tick ∧ lowIndex x = 0#10) ∨ op = .irqLatch (lowIndex x) ∨ op = .irqTake (lowIndex x) ∨
      op = .lineHigh (lowIndex x) ∨ op = .lineLow (lowIndex x) := by
  unfold decodeEvent at h
  split at h
  case isTrue htick =>
    cases h
    exact .inl ⟨rfl, (hits_tick_iff.1 htick).2⟩
  case isFalse =>
    split_ifs at h <;> cases h <;> simp

/-- An event at an index the block does not have is refused where it runs (R82). -/
theorem exec_event_of_ge {s : State} {i : IrqNum} {op : Instr}
    (hop : op = .irqLatch i ∨ op = .irqTake i ∨ op = .lineHigh i ∨ op = .lineLow i) (hi : s.nIrq ≤ i.toNat) :
    exec op s = .refused .reservedEncoding := by
  have hno : ¬ s.hasIrq i = true := State.hasIrq_of_ge hi
  have hline : ¬ (s.hasIrq i && environmentDrives i) = true := fun h => hno (Bool.and_eq_true_iff.1 h).1
  rcases hop with rfl | rfl | rfl | rfl
  · exact if_neg hno
  · exact if_neg hno
  · exact if_neg hline
  · exact if_neg hline

/-- The step refuses every event at an index the block does not have, whether it decodes or not (R82). -/
theorem step_event_of_ge {s : State} {x : BitVec 13} {rest : List Turn} (hagenda : s.agenda = .request (.event x) :: rest)
    (hi : s.nIrq ≤ (lowIndex x).toNat) : step s = .refused .reservedEncoding := by
  have hlower : 61 ≤ s.nIrq := s.cfg.nIrq_lower
  cases hd : decodeEvent x with
  | error e =>
    obtain ⟨-, rfl⟩ := decodeEvent_eq_error_iff.1 hd
    exact step_of_reserved hagenda hd
  | ok op =>
    rw [step_of_decode hagenda hd]
    rcases decodeEvent_ok_cases hd with ⟨-, hzero⟩ | hop
    · rw [hzero, BitVec.toNat_ofNat] at hi
      omega
    · exact exec_event_of_ge hop hi

/-- Settles O4, one format after the other: the step refuses what the decoder fails on, and the decoder fails nowhere else. -/
theorem reservedPatternsAreRefused : Obligations.ReservedPatternsAreRefused := by
  refine ⟨fun s x rest hagenda => ?sideband, fun s x rest hagenda => ?event, fun s x rest hagenda => ?func⟩
  case sideband =>
    refine ⟨fun hcmd => ?_, fun hcmd hmode => ?_, fun hcmd => ?_⟩
    · exact step_of_reserved hagenda (decodeSideband_eq_error_iff.2 ⟨hcmd, rfl⟩)
    · rw [step_of_decode hagenda (decodeSideband_of_cmd_two hcmd)]
      exact exec_tvecWrite_of_reserved _ (lowWord_mode x ▸ hmode)
    · refine exists_ok_of_ne_error fun e he => ?_
      exact absurd (decodeSideband_eq_error_iff.1 he).1 (Nat.not_le.2 hcmd)
  case event =>
    refine ⟨fun hkind => ?_, fun hidx => ?_, fun hkind hidx => ?_, fun hkind hidx => ?_, fun hkind htick hline => ?_⟩
    · exact step_of_reserved hagenda (decodeEvent_eq_error_iff.2 ⟨.inl hkind, rfl⟩)
    · exact step_event_of_ge hagenda hidx
    · exact step_of_reserved hagenda (decodeEvent_eq_error_iff.2 ⟨.inr (.inl ⟨hkind, hidx⟩), rfl⟩)
    · exact step_of_reserved hagenda (decodeEvent_eq_error_iff.2 ⟨.inr (.inr ⟨hkind, hidx⟩), rfl⟩)
    · refine exists_ok_of_ne_error fun e he => ?_
      obtain ⟨hlate | ⟨hzero, hidx⟩ | ⟨hlevel, hidx⟩, -⟩ := decodeEvent_eq_error_iff.1 he
      · exact absurd hlate (Nat.not_le.2 hkind)
      · exact hidx (htick hzero)
      · exact hline hlevel hidx
  case func =>
    refine ⟨fun hfn => ?_, fun hfn hin => ?_, fun hfn hin => ?_⟩
    · exact step_of_reserved hagenda (decodeFunc_eq_error_iff.2 ⟨.inl hfn, rfl⟩)
    · exact step_of_reserved hagenda (decodeFunc_eq_error_iff.2 ⟨.inr ⟨hfn, hin⟩, rfl⟩)
    · refine exists_ok_of_ne_error fun e he => ?_
      obtain ⟨hthree | ⟨hone, hbad⟩, -⟩ := decodeFunc_eq_error_iff.1 he
      · exact hfn hthree
      · obtain ⟨habove, hid, hid'⟩ := hin hone
        exact hbad.elim (· habove) (·.elim hid hid')

end Machine
end Sys2Proof

/-! Proofs about the bank operations (spec/40_bank_ops.md): a write stores one bit, and a latch of another line commutes
with it. -/
namespace Sys2Proof
namespace Machine

/-! ## Addresses of entries (R78) -/

theorem ipAddr_toNat (i : IrqNum) : (ipAddr i).toNat = Config.ipBase + i.toNat := by
  have hlt : i.toNat < 1024 := i.isLt
  have hbase : Config.ipBase = 0x02800000 := rfl
  exact Nat.mod_eq_of_lt (by omega)

theorem ieAddr_toNat (i : IrqNum) : (ieAddr i).toNat = Config.ieBase + i.toNat := by
  have hlt : i.toNat < 1024 := i.isLt
  have hbase : Config.ieBase = 0x02800400 := rfl
  exact Nat.mod_eq_of_lt (by omega)

/-! ## One write -/

/-- The byte of a pending entry after its write (R13, R101). -/
theorem State.byteAt_writeIp_self (s : State) {i : IrqNum} (v : Byte) (hi : i.toNat < s.nIrq) (hlen : i.toNat < s.ip.length) :
    (s.writeIp i v).byteAt (Config.ipBase + i.toNat) = some (bitByte (v.getLsbD 0)) := by
  rw [(s.writeIp i v).byteAt_ip i.toNat hi, State.writeIp_ip, bankRead_bankWrite_self _ _ _ hlen]

/-- The byte of an enable entry after its write (R13, R103). -/
theorem State.byteAt_writeIe_self (s : State) {i : IrqNum} (v : Byte) (hi : i.toNat < s.nIrq) (hlen : i.toNat < s.ie.length) :
    (s.writeIe i v).byteAt (Config.ieBase + i.toNat) = some (bitByte (v.getLsbD 0)) := by
  rw [(s.writeIe i v).byteAt_ie i.toNat hi, State.writeIe_ie, bankRead_bankWrite_self _ _ _ hlen]

/-- `IP_WRITE` stores to the byte of its entry alone and keeps every register but `IP` (R101, R104). -/
theorem exec_ipWrite_stores_one_byte {s : State} {i : IrqNum} (v : Byte) (hi : i.toNat < s.nIrq) (hlen : i.toNat < s.ip.length) :
    ∃ t, exec (.ipWrite i v) s = .next t ∧
      t.byteAt (ipAddr i).toNat = some (if v.getLsbD 0 then 1 else 0) ∧
      (∀ a, a ≠ (ipAddr i).toNat → t.byteAt a = s.byteAt a) ∧
      State.sameRegisters { s with ip := t.ip } t := by
  rw [ipAddr_toNat]
  exact ⟨_, exec_ipWrite_of_lt v hi, s.byteAt_writeIp_self v hi hlen, s.byteAt_writeIp_of_ne i v, rfl⟩

/-- `IE_WRITE` stores to the byte of its entry alone and keeps every register but `IE` (R103, R104). -/
theorem exec_ieWrite_stores_one_byte {s : State} {i : IrqNum} (v : Byte) (hi : i.toNat < s.nIrq) (hlen : i.toNat < s.ie.length) :
    ∃ t, exec (.ieWrite i v) s = .next t ∧
      t.byteAt (ieAddr i).toNat = some (if v.getLsbD 0 then 1 else 0) ∧
      (∀ a, a ≠ (ieAddr i).toNat → t.byteAt a = s.byteAt a) ∧
      State.sameRegisters { s with ie := t.ie, boot := t.boot } t := by
  rw [ieAddr_toNat]
  exact ⟨_, exec_ieWrite_of_lt v hi, s.byteAt_writeIe_self v hi hlen, s.byteAt_writeIe_of_ne i v, rfl⟩

/-! ## A write and a latch of another line -/

/-- The order of a latch and a write of two different entries leaves no trace in `IP`. -/
theorem State.ip_latchIp_writeIp_comm (s : State) {i j : IrqNum} (v : Byte) (hne : j ≠ i) :
    ((s.latchIp j).writeIp i v).ip = ((s.writeIp i v).latchIp j).ip :=
  List.set_comm _ _ (fun heq => hne (BitVec.eq_of_toNat_eq heq))

/-- After a clear of `i` and then a latch of `j`, `j` is pending and `i` is not. -/
theorem State.ip_clear_then_latch (s : State) {i j : IrqNum} (hne : j ≠ i) (hi : i.toNat < s.ip.length)
    (hj : j.toNat < s.ip.length) :
    ((s.writeIp i 0).latchIp j).ip.getD j.toNat false = true ∧ ((s.writeIp i 0).latchIp j).ip.getD i.toNat false = false := by
  have hindex : j.toNat ≠ i.toNat := fun heq => hne (BitVec.eq_of_toNat_eq heq)
  have hlen : j.toNat < (bankWrite s.ip i.toNat 0).length := by rwa [bankWrite_length]
  have hclear : (bankWrite s.ip i.toNat 0).getD i.toNat false = false := bankWrite_getD_self _ _ 0 hi
  rw [State.latchIp_ip, State.writeIp_ip, set_true_getD _ _ _ hlen, set_true_getD _ _ _ hlen, hclear]
  simp [hindex]

/-- Settles O11: the stored byte and the frame of each write, and the latch, which comes after the clear or, by
`ip_latchIp_writeIp_comm`, before it with the same pending bank. -/
theorem bankWriteChangesOneBit : Obligations.BankWriteChangesOneBit := by
  intro i v s hwf hi
  obtain ⟨hie, hip, -, -, -⟩ := s.wf_iff.1 hwf
  refine ⟨exec_ipWrite_stores_one_byte v hi (hip ▸ hi), exec_ieWrite_stores_one_byte v hi (hie ▸ hi), fun j hne hj hhigh => ?_⟩
  have hpending := s.ip_clear_then_latch hne (hip ▸ hi) (hip ▸ hj)
  constructor
  case left =>
    refine ⟨_, _, exec_irqLatch_of_high hj hhigh, exec_ipWrite_of_lt 0 hi, ?_⟩
    rwa [← s.ip_latchIp_writeIp_comm 0 hne] at hpending
  case right => exact ⟨_, _, exec_ipWrite_of_lt 0 hi, exec_irqLatch_of_high hj hhigh, hpending⟩

end Machine
end Sys2Proof

/-! Proofs about the timer operations (spec/41_timer_ops.md): a step advances the counter exactly where it runs `TICK`, so a
run advances it by the number of those. -/
namespace Sys2Proof
namespace Machine

/-! ## The read-only port (R124) -/

/-- `MTIME_WRITE` answers the error response and drops the value. -/
theorem exec_mtimeWrite (v : DWord) (s : State) : exec (.mtimeWrite v) s = .next (s.onlyAnswered true) := rfl

/-- The key of an 8-byte write at the counter's address, whatever `wdata` is (R72). -/
theorem decode_mtimeWrite (v : DWord) : decode (.mmio 0x70200BFF8#35 v) = .ok (.mtimeWrite v) := rfl

/-- Settles O17: the answer does not look at the value, and neither does the row of R72. -/
theorem mtimeWriteIsABusError : Obligations.MtimeWriteIsABusError :=
  fun v s => ⟨exec_mtimeWrite v s, decode_mtimeWrite v⟩

/-! ## Where `TICK` comes from -/

theorem isTick_iff {op : Instr} : isTick op = true ↔ op = .tick := by
  cases op <;> simp [isTick]

/-- The operation of the next step is the one fetched. -/
theorem State.nextOp_eq_some_iff {s : State} {op : Instr} : s.nextOp = some op ↔ ∃ u, fetch s = .run op u := by
  unfold State.nextOp
  cases fetch s <;> simp

theorem State.nextOp_any_isTick_iff {s : State} : s.nextOp.any isTick = true ↔ s.nextOp = some .tick := by
  simp [Option.any_eq_true, isTick_iff]

/-- What arrives on an interface decodes to an operation of that interface's format (R70, R83). -/
theorem interfaceFormat_of_decode {r : Request} {op : Instr} (h : decode r = .ok op) :
    Laws.interfaceFormat r = some op.format := by
  cases r with
  | mmio key wdata =>
    simp only [decode, decodeMmio] at h
    split_ifs at h <;> cases h <;> rfl
  | sideband x =>
    simp only [decode, decodeSideband] at h
    split_ifs at h <;> cases h <;> rfl
  | event x =>
    obtain ⟨rfl, -⟩ | rfl | rfl | rfl | rfl := decodeEvent_ok_cases h <;> rfl
  | func x =>
    simp only [decode, decodeFunc] at h
    split_ifs at h
    · cases h; rfl
    · split at h <;> cases h; rfl
    · cases h; rfl
  | cause w =>
    simp only [decode, decodeCauseWord] at h
    split at h <;> cases h <;> rfl
  | call i =>
    simp only [decode] at h
    split at h <;> cases h
    exact congrArg some (eq_of_beq ‹_›).symm
  | fetch addr => cases h
  | noInterface nbits word => cases h

/-- Only the event word 0 is `TICK` (R74). -/
theorem decodeEvent_tick {x : BitVec 13} (h : decodeEvent x = .ok .tick) : x = 0 := by
  unfold decodeEvent at h
  split at h
  case isTrue htick =>
    have hall : x &&& 0x1FFF#13 = x := BitVec.and_allOnes
    rwa [hits, hall, beq_iff_eq] at htick
  case isFalse => split_ifs at h <;> cases h

/-- Only one request is `TICK`: the event word 0. -/
theorem decode_tick {r : Request} (h : decode r = .ok .tick) : r = .event 0 := by
  have hformat : Laws.interfaceFormat r = some .e := interfaceFormat_of_decode h
  cases r with
  | event x => rw [decodeEvent_tick h]
  | _ => cases hformat

/-- Where no sequence in progress issues a `TICK`, which `State.wf` says, the environment asks for it. -/
theorem agenda_of_nextOp_tick {s : State} (hwf : s.wf = true) (hop : s.nextOp = some .tick) :
    ∃ rest, s.agenda = .request (.event 0) :: rest := by
  obtain ⟨u, hfetch⟩ := State.nextOp_eq_some_iff.1 hop
  rcases fetch_run_cases hfetch with ⟨r, rest, hagenda, hdecode, -⟩ | ⟨todo, outer, rest, -, hcalls, -⟩
  · exact ⟨rest, decode_tick hdecode ▸ hagenda⟩
  · obtain ⟨-, -, -, -, hok⟩ := s.wf_iff.1 hwf
    rw [hcalls] at hok
    cases hok

/-! ## The counter along a run (R127) -/

/-- Every operation but `TICK` keeps the counter. -/
theorem RegisterEffect.mtime_eq {s u : State} {op : Instr} (h : RegisterEffect s op u) (hother : isTick op = false) :
    u.mtime = s.mtime := by
  cases h with
  | tick => cases hother
  | _ => rfl

/-- A step of another operation, or one that answers the error response, keeps the counter. -/
theorem step_mtime_of_not_tick {s t : State} (hstep : step s = .next t) (hother : s.nextOp.any isTick = false) :
    t.mtime = s.mtime :=
  step_keeps (f := State.mtime) (fun _ _ _ _ _ _ => rfl) (fun _ _ _ h => h.mtime_eq) hstep hother

/-- A step that runs `TICK` adds one (R123). -/
theorem step_mtime_of_tick {s t : State} (hstep : step s = .next t) (hop : s.nextOp = some .tick) :
    t.mtime = s.mtime + 1 := by
  rcases step_nextOp_cases hstep with ⟨op, a, c, hsome, hexec⟩ | ⟨hnone, -⟩
  · cases hsome.symm.trans hop
    cases hexec
    rfl
  · cases hnone.symm.trans hop

/-- The counter after a step that does not carry it past its end. -/
theorem step_mtime_toNat {s t : State} (hstep : step s = .next t)
    (hwrap : s.mtime.toNat + (if s.nextOp.any isTick then 1 else 0) < 2 ^ 64) :
    t.mtime.toNat = s.mtime.toNat + (if s.nextOp.any isTick then 1 else 0) := by
  by_cases htick : s.nextOp.any isTick = true
  · rw [if_pos htick] at hwrap ⊢
    rw [step_mtime_of_tick hstep (State.nextOp_any_isTick_iff.1 htick), BitVec.toNat_add]
    exact Nat.mod_eq_of_lt hwrap
  · rw [if_neg htick, step_mtime_of_not_tick hstep (Bool.eq_false_iff.2 htick), Nat.add_zero]

/-- A run of `k + 1` steps is a step and a run of `k`. -/
theorem runSteps_succ_eq_next {k : Nat} {s t : State} :
    runSteps (k + 1) s = .next t ↔ ∃ u, step s = .next u ∧ runSteps k u = .next t := by
  cases hstep : step s <;> simp [runSteps, hstep]

/-- Along a run without a wrap the counter grows by the number of `TICK`s. -/
theorem runSteps_mtime_toNat {k : Nat} {s t : State} (hrun : runSteps k s = .next t)
    (hwrap : s.mtime.toNat + opsAlongRun isTick k s < 2 ^ 64) :
    t.mtime.toNat = s.mtime.toNat + opsAlongRun isTick k s := by
  induction k generalizing s with
  | zero => cases hrun; rfl
  | succ k ih =>
    obtain ⟨u, hstep, hrest⟩ := runSteps_succ_eq_next.1 hrun
    rw [opsAlongRun_succ isTick k hstep, ← Nat.add_assoc] at hwrap ⊢
    have hfirst := step_mtime_toNat hstep (Nat.lt_of_le_of_lt (Nat.le_add_right _ _) hwrap)
    rw [← hfirst] at hwrap ⊢
    exact ih hrest hwrap

/-- Settles O20: the step by whether it runs `TICK`, the run by `runSteps_mtime_toNat`, and the reads by the run between
them. -/
theorem counterNeverDecreases : Obligations.CounterNeverDecreases := by
  refine ⟨fun s t hwf hstep => ?oneStep, fun k s t hrun hwrap => ?aRun, fun k s t u v hfirst hrun hwrap hsecond => ?twoReads⟩
  case oneStep =>
    by_cases htick : s.nextOp.any isTick = true
    · have hop := State.nextOp_any_isTick_iff.1 htick
      exact .inr ⟨step_mtime_of_tick hstep hop, agenda_of_nextOp_tick hwf hop⟩
    · exact .inl (step_mtime_of_not_tick hstep (Bool.eq_false_iff.2 htick))
  case aRun =>
    have hgrowth := runSteps_mtime_toNat hrun hwrap
    exact ⟨hgrowth, hgrowth ▸ Nat.le_add_right _ _⟩
  case twoReads =>
    have hgrowth := runSteps_mtime_toNat hrun hwrap
    cases hfirst
    cases hsecond
    exact ⟨s.mtime, u.mtime, rfl, rfl, hgrowth ▸ Nat.le_add_right _ _⟩

end Machine
end Sys2Proof

/-! Proofs about the sideband commands (spec/42_sideband_ops.md): `TRAP_RETURN` looks at the service stack alone, so a popped
source keeps what makes it a candidate. -/
namespace Sys2Proof
namespace Machine

/-- `TRAP_RETURN` has the command 7 (R73). -/
theorem decodeSideband_of_cmd_seven {x : BitVec 36} (hcmd : x.extractLsb' 32 4 = 7#4) :
    decodeSideband x = .ok .trapReturn := by
  simp (disch := decide) [decodeSideband, hits_iff_cmd, hcmd]

/-- `TRAP_RETURN` with nothing in service (R148). -/
theorem exec_trapReturn_of_svc_nil {s : State} (hsvc : s.svc = []) : exec .trapReturn s = .refused .returnWithoutTrap := by
  have hleave : (s.reply (.sideband 0)).leaveTrap = none := by
    simp only [State.leaveTrap, State.reply_svc, hsvc]
  simp only [exec, execTrapReturn, hleave]

/-- `TRAP_RETURN` with a trap in service (R148). -/
theorem exec_trapReturn_of_svc_cons {s : State} {e : SvcEntry} {rest : List SvcEntry} (hsvc : s.svc = e :: rest) :
    exec .trapReturn s = .next { s with svc := rest, resp := .sideband 0, xfer := .trapReturn } := by
  have hleave : (s.reply (.sideband 0)).leaveTrap = some { s with svc := rest, resp := .sideband 0, xfer := .trapReturn } :=
    State.leaveTrap_eq_some.2 ⟨e, rest, hsvc, rfl⟩
  simp only [exec, execTrapReturn, hleave]

/-- `candidate` asks for the three things of R221. -/
theorem State.candidate_iff (s : State) (i : IrqNum) :
    s.candidate i = true ↔ i.toNat < s.nIrq ∧ s.ie.getD i.toNat false = true ∧ s.ip.getD i.toNat false = true := by
  simp only [State.candidate, Bool.and_eq_true, s.hasIrq_iff, and_assoc]

/-- With nothing in service every entry may enter (R222). -/
theorem State.mayEnter_of_svc_nil {s : State} (e : SvcEntry) (hsvc : s.svc = []) : s.mayEnter e = true := by
  simp only [State.mayEnter, hsvc]

/-- Settles O25: the command field decides the pattern, the stack's two cases decide the answer, and the banks that make a
source a candidate are outside the frame of the pop. -/
theorem trapReturnPopsOneEntry : Obligations.TrapReturnPopsOneEntry := by
  refine ⟨fun arg => ?pattern, fun s => exec_trapReturn_of_svc_nil, fun s e rest => exec_trapReturn_of_svc_cons,
    fun s t i rest hsvc hi hie hip hexec => ?candidate⟩
  case pattern => exact decodeSideband_of_cmd_seven BitVec.extractLsb'_append_eq_left
  case candidate =>
    cases (exec_trapReturn_of_svc_cons hsvc).symm.trans hexec
    have hcandidate := (State.candidate_iff { s with svc := rest, resp := .sideband 0, xfer := .trapReturn } i).2 ⟨hi, hie, hip⟩
    refine ⟨hcandidate, fun hgie hrest => ?_⟩
    exact (State.takeable_iff _ i).2 ⟨hgie, hcandidate, State.mayEnter_of_svc_nil _ hrest⟩

end Machine
end Sys2Proof

/-! Proofs about the decoder (spec/43_decoder.md): `FROM_IRQ` answers a known source exactly for its number, and every call of
the decoder replies with a value made from the input alone. -/
namespace Sys2Proof
namespace Machine

/-! ## Sources and numbers (R160 to R162) -/

/-- The numbers of R76's rows, in the table's order. -/
def sourceNumbers : List Word := sourceRows.map (fun row => row.2.2.2)

theorem exists_toIrq_of_known {src : Source} (h : src ≠ .unknown) : ∃ n, toIrq src = some n := by
  cases src with
  | unknown => exact absurd rfl h
  | _ => exact ⟨_, rfl⟩

theorem ne_unknown_of_toIrq {src : Source} {n : Word} (h : toIrq src = some n) : src ≠ .unknown := by
  rintro rfl
  cases h

theorem mem_sourceNumbers_of_toIrq {src : Source} {n : Word} (h : toIrq src = some n) : n ∈ sourceNumbers := by
  cases src <;> cases h <;> decide

theorem fromIrq_of_toIrq {src : Source} {n : Word} (h : toIrq src = some n) : fromIrq n = src := by
  cases src <;> cases h <;> rfl

/-- Every branch of `FROM_IRQ` but the last compares `n` with the number of the source it answers. -/
theorem toIrq_fromIrq_of_known {n : Word} (h : fromIrq n ≠ .unknown) : toIrq (fromIrq n) = some n := by
  revert h
  fun_cases fromIrq n
  case case14 => exact fun h => absurd rfl h
  all_goals exact fun _ => congrArg some (Eq.symm ‹n = _›)

theorem toIrq_of_mem_sourceRows : ∀ row ∈ sourceRows, toIrq row.2.2.1 = some row.2.2.2 := by decide

theorem toIrq_fromIrq_of_mem {n : Word} (h : n ∈ sourceNumbers) : toIrq (fromIrq n) = some n := by
  obtain ⟨row, hrow, rfl⟩ := List.mem_map.1 h
  have hnumber : toIrq row.2.2.1 = some row.2.2.2 := toIrq_of_mem_sourceRows row hrow
  rw [fromIrq_of_toIrq hnumber, hnumber]

/-- The known numbers are those of the rows. -/
theorem fromIrq_eq_unknown_iff {n : Word} : fromIrq n = .unknown ↔ n ∉ sourceNumbers := by
  constructor
  · exact fun hunknown hmem => ne_unknown_of_toIrq (toIrq_fromIrq_of_mem hmem) hunknown
  · intro hnot
    by_contra hknown
    exact hnot (mem_sourceNumbers_of_toIrq (toIrq_fromIrq_of_known hknown))

/-- Settles O34: `FROM_IRQ` undoes `TO_IRQ`, so two sources with one number are both what `FROM_IRQ` answers for it. -/
theorem sourcesAndNumbersAreABijection : Obligations.SourcesAndNumbersAreABijection := by
  refine ⟨fun src hknown => ?known, fun _ => toIrq_fromIrq_of_mem, fun _ _ _ ha hb => ?injective,
    fun _ => fromIrq_eq_unknown_iff, rfl⟩
  case known =>
    obtain ⟨n, hn⟩ := exists_toIrq_of_known hknown
    exact ⟨n, hn, fromIrq_of_toIrq hn⟩
  case injective => exact (fromIrq_of_toIrq ha).symm.trans (fromIrq_of_toIrq hb)

/-! ## Calls of the decoder (R166) -/

theorem State.sameRegisters_reply (s : State) (r : Response) : s.sameRegisters (s.reply r) := rfl

/-- `TO_IRQ` of a known source (R161). -/
theorem exec_toIrq_of_some {src : Source} {n : Word} (h : toIrq src = some n) (s : State) :
    exec (.toIrq src) s = .next (s.reply (.irqNumber true n)) := by
  simp only [exec, execToIrq, h]

/-- A row of R76 puts one cause word before the decoder. -/
theorem exec_cause_eq_presentCause {op : Instr} (h : op.format = .c) :
    ∃ w, ∀ s, exec op s = .next (s.presentCause w) := by
  cases op with
  | causeException | causeMachineSoft | causeMachineTimer | causeMachineExternal | causeDma | causeSpi | causeUart0
  | causeUart1 | causeI2c | causePwm | causeTimerCh0 | causeTimerCh1 | causeWatchdog | causeGpio | causeUnknownIrq =>
    exact ⟨_, fun _ => rfl⟩
  | _ => cases h

/-- A call of the decoder replies with one value in every state. -/
theorem exec_decoder_eq_reply {op : Instr}
    (h : (∃ n, op = .fromIrq n) ∨ (∃ src, op = .toIrq src ∧ src ≠ .unknown) ∨ (∃ w, op = .decodeCause w) ∨ op.format = .c) :
    ∃ r, ∀ s, exec op s = .next (s.reply r) := by
  rcases h with ⟨n, rfl⟩ | ⟨src, rfl, hknown⟩ | ⟨w, rfl⟩ | hcause
  · exact ⟨_, fun _ => rfl⟩
  · obtain ⟨n, hn⟩ := exists_toIrq_of_known hknown
    exact ⟨_, exec_toIrq_of_some hn⟩
  · exact ⟨_, fun _ => rfl⟩
  · obtain ⟨w, hw⟩ := exec_cause_eq_presentCause hcause
    exact ⟨_, hw⟩

/-- Settles O38: both states get the one reply, and a reply changes no register. -/
theorem decoderDependsOnItsInputOnly : Obligations.DecoderDependsOnItsInputOnly := by
  intro s s' op hdecoder
  obtain ⟨r, hreply⟩ := exec_decoder_eq_reply hdecoder
  exact ⟨s.reply r, s'.reply r, hreply s, hreply s', rfl, s.sameRegisters_reply r, s'.sameRegisters_reply r⟩

end Machine
end Sys2Proof

/-! Proofs about the software sequences (spec/44_software_sequences.md): a time operation is a continuation of the time base,
so one lemma refuses all of them where there is none. -/
namespace Sys2Proof
namespace Machine

/-- Without a time base there is no instance to go on with (R183; log 15). -/
theorem State.withTimeBase_of_none {s : State} (h : s.cfg.fTick = none) (k : Nat → Out) :
    s.withTimeBase k = .refused .noTimeBase := by
  rw [State.withTimeBase, h]

theorem State.noNext_withTimeBase {s : State} (h : s.cfg.fTick = none) (k : Nat → Out) : noNext (s.withTimeBase k) :=
  s.withTimeBase_of_none h k ▸ noNext_refused _

/-- Settles O42: `try_new` only replies, and each time operation goes through the time base first. -/
theorem tryNewReportsTheTimeBase : Obligations.TryNewReportsTheTimeBase := by
  refine ⟨fun s => rfl, fun s delay hnone => ⟨?getTicks, ?getTimeMs, ?getTimeUs, ?setTimecmp⟩⟩
  all_goals exact s.noNext_withTimeBase hnone _

end Machine
end Sys2Proof

/-! Proofs about the events and the traps (spec/60_exceptions.md): each event by its enabling condition, the pending bank by the
one entry a step can write, and the take condition by what the service stack lets in. -/
namespace Sys2Proof
namespace Machine

/-! ## Fields put together -/

/-- A word is its upper field in place plus its lower field. -/
theorem append_eq_add {m n : Nat} (x : BitVec m) (y : BitVec n) : x ++ y = (x ++ 0#n) + y.setWidth (m + n) := by
  have hfit : x.toNat <<< n + y.toNat < 2 ^ (m + n) := by
    rw [Nat.shiftLeft_add_eq_or_of_lt y.isLt, ← BitVec.toNat_append]
    exact (x ++ y).isLt
  apply BitVec.eq_of_toNat_eq
  rw [BitVec.toNat_add, BitVec.toNat_append, BitVec.toNat_append, BitVec.toNat_ofNat, Nat.zero_mod, Nat.or_zero,
    BitVec.toNat_setWidth_of_le (Nat.le_add_left n m), ← Nat.shiftLeft_add_eq_or_of_lt y.isLt, Nat.mod_eq_of_lt hfit]

/-- The cause of a taken interrupt is `0x80000000 + i` (R222). -/
theorem interruptCause_eq_add (i : IrqNum) : interruptCause i = 0x80000000#32 + i.setWidth 32 := by
  have hcode : (i.setWidth 31).setWidth 32 = i.setWidth 32 := BitVec.setWidth_setWidth (by decide)
  calc interruptCause i
      = (1#1 ++ 0#31) + (i.setWidth 31).setWidth 32 := append_eq_add 1#1 (i.setWidth 31)
    _ = 0x80000000#32 + i.setWidth 32 := by rw [hcode]; rfl

/-- The cause of a reported exception is its code (R147). -/
theorem exceptionCause_eq_setWidth (code : BitVec 31) : exceptionCause code = code.setWidth 32 :=
  (append_eq_add 0#1 code).trans (BitVec.zero_add _)

/-- An event of the kind 1 is `IRQ_LATCH`, one of the kind 2 is `IRQ_TAKE`, each with its index below the kind (R74). -/
theorem decode_latch_and_take_words (i : IrqNum) :
    decode (.event (0x0400#13 + i.setWidth 13)) = .ok (.irqLatch i) ∧
      decode (.event (0x0800#13 + i.setWidth 13)) = .ok (.irqTake i) := by
  have hkind (kind : BitVec 3) : (kind ++ i).extractLsb' 10 3 = kind := BitVec.extractLsb'_append_eq_left
  have hindex (kind : BitVec 3) : lowIndex (kind ++ i) = i := BitVec.extractLsb'_append_eq_right
  have hlatch : 0x0400#13 + i.setWidth 13 = 1#3 ++ i := (append_eq_add 1#3 i).symm
  have htake : 0x0800#13 + i.setWidth 13 = 2#3 ++ i := (append_eq_add 2#3 i).symm
  rw [hlatch, htake]
  constructor <;> simp (disch := decide) [decode, decodeEvent, hits_tick_iff, hits_iff_kind, hkind, hindex]

/-! ## Taking an interrupt (R222 to R226, R230) -/

/-- What may enter over the service stack (R222, R231). -/
theorem State.mayEnter_iff (s : State) (e : SvcEntry) :
    s.mayEnter e = true ↔
      s.svc = [] ∨ (s.cfg.nesting = true ∧ ∃ top rest, s.svc = top :: rest ∧ s.cfg.preempts e top = true) := by
  unfold State.mayEnter
  cases s.svc <;> simp

/-- Without nesting nothing enters over a trap in service (R225). -/
theorem State.mayEnter_of_svc_ne_nil {s : State} (e : SvcEntry) (hsvc : s.svc ≠ []) (hnest : s.cfg.nesting = false) :
    s.mayEnter e = false := by
  rw [← Bool.not_eq_true, s.mayEnter_iff, hnest]
  rintro (hnil | ⟨hfalse, -⟩)
  · exact hsvc hnil
  · cases hfalse

/-- The top of an ordered stack may enter over what stands below it (R230). -/
theorem State.mayEnter_of_svcOrdered {s : State} {i : IrqNum} (h : svcOrdered s.cfg (.irq i :: s.svc) = true) :
    s.mayEnter (.irq i) = true := by
  cases hsvc : s.svc with
  | nil => exact State.mayEnter_of_svc_nil _ hsvc
  | cons top rest =>
    rw [hsvc, svcOrdered_cons, Bool.and_eq_true] at h
    obtain ⟨hover, -⟩ := h
    have ⟨hnest, hpreempts⟩ : s.cfg.nesting = true ∧ s.cfg.preempts (.irq i) top = true := by simpa using hover
    exact (s.mayEnter_iff _).2 (.inr ⟨hnest, top, rest, hsvc, hpreempts⟩)

/-- `trap_req` is 1 exactly while something is takeable: what is takeable is a line of the block (R23). -/
theorem State.trapReq_iff_takeable (s : State) : s.trapReq = true ↔ ∃ i : IrqNum, s.takeable i = true := by
  rw [s.trapReq_iff]
  constructor
  · rintro ⟨i, -, ht⟩
    exact ⟨i, ht⟩
  · rintro ⟨i, ht⟩
    obtain ⟨-, hcandidate, -⟩ := (s.takeable_iff i).1 ht
    exact ⟨i, ((s.candidate_iff i).1 hcandidate).1, ht⟩

/-- The enabling condition of `IRQ_TAKE`, spelled out (R222). -/
theorem State.takeable_iff_of_lt {s : State} {i : IrqNum} (hi : i.toNat < s.nIrq) :
    s.takeable i = true ↔ s.gie = true ∧ s.ie.getD i.toNat false = true ∧ s.ip.getD i.toNat false = true ∧
      (s.svc = [] ∨ (s.cfg.nesting = true ∧ ∃ top rest, s.svc = top :: rest ∧ s.cfg.preempts (.irq i) top = true)) := by
  rw [s.takeable_iff, s.candidate_iff, s.mayEnter_iff]
  simp only [hi, true_and, and_assoc]

/-- `IRQ_TAKE` of a takeable interrupt takes a trap (R222). -/
theorem exec_irqTake_of_takeable {s : State} {i : IrqNum} (hi : i.toNat < s.nIrq) (ht : s.takeable i = true) :
    exec (.irqTake i) s = (s.reply .event).takeTrap (interruptCause i) (.irq i) :=
  (if_pos ((s.hasIrq_iff i).2 hi)).trans (if_pos ht)

/-- `IRQ_TAKE` is no step where the interrupt is not takeable (R222). -/
theorem noNext_irqTake {s : State} {i : IrqNum} (ht : s.takeable i = false) : noNext (exec (.irqTake i) s) := by
  intro t h
  exact absurd (takeable_of_exec_irqTake h) (ht ▸ Bool.false_ne_true)

/-- Settles O29: `takeTrap` decides by the mode of `TVEC` once the interrupt is takeable, and `interruptCause_eq_add` and
`entryAddress_eq_and` give the two words. -/
theorem takeRecordsTheInterrupt : Obligations.TakeRecordsTheInterrupt := by
  intro i s hi
  refine ⟨State.takeable_iff_of_lt hi, fun ht hmode => ?taken, fun ht hmode => ?reserved, noNext_irqTake,
    s.trapReq_iff_takeable, (decode_latch_and_take_words i).2⟩
  case taken =>
    rw [exec_irqTake_of_takeable hi ht, ← interruptCause_eq_add, ← entryAddress_eq_and]
    exact State.takeTrap_eq_next.2 ⟨beq_iff_eq.2 hmode, rfl⟩
  case reserved =>
    rw [exec_irqTake_of_takeable hi ht]
    exact State.takeTrap_of_reserved (beq_false_of_ne hmode)

/-- Settles O33: the pop uncovers what the entry stood on, and `mayEnter_of_svcOrdered` says it may enter over that again. -/
theorem unclearedSourceIsTakenAgain : Obligations.UnclearedSourceIsTakenAgain := by
  intro s i rest hwf hordered hsvc hgie hie hip
  obtain ⟨-, -, -, hentries, -⟩ := s.wf_iff.1 hwf
  have hi : i.toNat < s.nIrq := by
    rw [hsvc, List.all_cons, Bool.and_eq_true] at hentries
    exact of_decide_eq_true hentries.1
  rw [State.serviceOrdered, hsvc] at hordered
  have htake : State.takeable { s with svc := rest, resp := .sideband 0, xfer := .trapReturn } i = true :=
    (State.takeable_iff _ i).2 ⟨hgie, (State.candidate_iff _ i).2 ⟨hi, hie, hip⟩, State.mayEnter_of_svcOrdered hordered⟩
  exact ⟨_, exec_trapReturn_of_svc_cons hsvc, htake, (State.trapReq_iff_takeable _).2 ⟨i, htake⟩⟩

/-! ## Latching (R219) -/

/-- `IRQ_LATCH` of a line that is low is no step (R219). -/
theorem exec_irqLatch_of_low {s : State} {i : IrqNum} (hi : i.toNat < s.nIrq) (hlow : s.irqIn i = false) :
    exec (.irqLatch i) s = .refused .notEnabled :=
  (if_pos ((s.hasIrq_iff i).2 hi)).trans (if_neg (hlow ▸ Bool.false_ne_true))

/-- `IRQ_LATCH` is enabled exactly while the line is high (R219). -/
theorem exec_irqLatch_enabled_iff {s : State} {i : IrqNum} (hi : i.toNat < s.nIrq) :
    (∃ t, exec (.irqLatch i) s = .next t) ↔ s.irqIn i = true := by
  cases hline : s.irqIn i
  · simp [exec_irqLatch_of_low hi hline]
  · simp [exec_irqLatch_of_high hi hline]

/-- Latching sets the entry (R219). -/
theorem irqLatch_sets {s : State} {i : IrqNum} (hi : i.toNat < s.nIrq) (hlen : i.toNat < s.ip.length)
    (hhigh : s.irqIn i = true) : ∃ t, exec (.irqLatch i) s = .next t ∧ t.ip.getD i.toNat false = true := by
  refine ⟨_, exec_irqLatch_of_high hi hhigh, ?_⟩
  rw [State.reply_ip, State.latchIp_ip, set_true_getD _ _ _ hlen, decide_eq_true rfl, Bool.true_or]

/-- Setting an entry that is set changes nothing. -/
theorem set_true_eq_self {b : List Bool} {i : Nat} (h : b.getD i false = true) : b.set i true = b := by
  have hlen : i < b.length := by
    by_contra hge
    rw [List.getD_eq_default _ _ (Nat.not_lt.1 hge)] at h
    cases h
  rw [List.getD_eq_getElem _ _ hlen] at h
  rw [← h, List.set_getElem_self]

/-- Latching a pending line changes no register (R219). -/
theorem State.latchIp_of_pending {s : State} {i : IrqNum} (h : s.ip.getD i.toNat false = true) : s.latchIp i = s := by
  rw [State.latchIp, set_true_eq_self h]

/-- Settles O28: the level decides whether the event is enabled, and line 7's level is the comparator's. -/
theorem latchSetsThePendingFlag : Obligations.LatchSetsThePendingFlag := by
  intro i s hi
  refine ⟨fun hhigh => ⟨exec_irqLatch_of_high hi hhigh, fun hset t ht => ?pending⟩,
    fun hlow => exec_irqLatch_of_low hi hlow ▸ noNext_refused _, ?lineSeven, (decode_latch_and_take_words i).1⟩
  case pending =>
    rw [exec_irqLatch_of_high hi hhigh, State.latchIp_of_pending hset] at ht
    cases ht
    exact s.sameRegisters_reply .event
  case lineSeven =>
    rintro rfl
    exact (exec_irqLatch_enabled_iff hi).trans s.irqIn_seven_iff

/-! ## The pending bank over a step (R220, R225) -/

/-- Writing one entry of a bank leaves an entry as it was or is the write of that entry. -/
theorem getD_set_cases (b : List Bool) (j i : Nat) (v : Bool) :
    (b.set j v).getD i false = b.getD i false ∨ (j = i ∧ (b.set j v).getD i false = v) := by
  by_cases hj : j = i
  · by_cases hlen : j < b.length
    · subst hj
      exact .inr ⟨rfl, by rw [List.getD_eq_getElem?_getD, List.getElem?_set_self hlen, Option.getD_some]⟩
    · exact .inl (by rw [List.set_eq_of_length_le (Nat.not_lt.1 hlen)])
  · exact .inl (by rw [List.getD_eq_getElem?_getD, List.getElem?_set_ne hj, List.getD_eq_getElem?_getD])

theorem State.sameRegisters_ip {s t : State} (h : s.sameRegisters t) : t.ip = s.ip :=
  (congrArg State.ip h).trans rfl

/-- What an operation can do to the pending bank: latch an entry, write one, or clear one (R101, R182, R219). -/
theorem ip_cases_of_exec {op : Instr} {s t : State} (h : exec op s = .next t) :
    t.ip = s.ip ∨ (∃ j, op = .irqLatch j ∧ t.ip = s.ip.set j.toNat true) ∨
      (∃ j v, op = .ipWrite j v ∧ t.ip = s.ip.set j.toNat (v.getLsbD 0)) ∨
      (∃ src k, op = .clearInterrupt src ∧ t.ip = s.ip.set k false) := by
  obtain ⟨u, hu, hsame⟩ := registerEffect_of_exec h
  rw [State.sameRegisters_ip hsame]
  cases hu with
  | irqLatch _ _ => exact .inr (.inl ⟨_, rfl, rfl⟩)
  | ipWrite v _ => exact .inr (.inr (.inl ⟨_, v, rfl, rfl⟩))
  | clearInterrupt _ => exact .inr (.inr (.inr ⟨_, _, rfl, rfl⟩))
  | _ => exact .inl rfl

/-- No event clears a pending flag: the only event that writes the bank latches (R225). -/
theorem event_keeps_pending {op : Instr} {s t : State} {i : IrqNum} (hevent : op.format = .e) (h : exec op s = .next t)
    (hset : s.ip.getD i.toNat false = true) : t.ip.getD i.toNat false = true := by
  rcases ip_cases_of_exec h with hip | ⟨j, rfl, hip⟩ | ⟨j, v, rfl, -⟩ | ⟨src, k, rfl, -⟩
  · rwa [hip]
  · rcases getD_set_cases s.ip j.toNat i.toNat true with hkept | ⟨-, hnew⟩
    · rwa [hip, hkept]
    · rwa [hip]
  · cases hevent
  · cases hevent

/-- A clear flag is set only by a latch of its line or by a write of 1 (R220). -/
theorem latch_or_write_of_pending_set {op : Instr} {s t : State} {i : IrqNum} (h : exec op s = .next t)
    (hclear : s.ip.getD i.toNat false = false) (hset : t.ip.getD i.toNat false = true) :
    op = .irqLatch i ∨ ∃ v : Byte, op = .ipWrite i v ∧ v.getLsbD 0 = true := by
  have written {j : Nat} {v : Bool} (hip : t.ip = s.ip.set j v) : j = i.toNat ∧ v = true := by
    rw [hip] at hset
    rcases getD_set_cases s.ip j i.toNat v with hkept | ⟨hj, hnew⟩
    · cases hset.symm.trans (hkept.trans hclear)
    · exact ⟨hj, hnew.symm.trans hset⟩
  rcases ip_cases_of_exec h with hip | ⟨j, rfl, hip⟩ | ⟨j, v, rfl, hip⟩ | ⟨src, k, rfl, hip⟩
  · cases hset.symm.trans (hip ▸ hclear)
  · exact .inl (congrArg _ (BitVec.eq_of_toNat_eq (written hip).1))
  · obtain ⟨hj, hv⟩ := written hip
    exact .inr ⟨v, by rw [BitVec.eq_of_toNat_eq hj], hv⟩
  · cases (written hip).2

/-- Settles O31: what is in service lets nothing in, and the pending bank only gains by an event. -/
theorem oneTrapAtATime : Obligations.OneTrapAtATime := by
  refine ⟨fun s i hsvc hnest => ?notTaken, fun s i hwf hi hhigh => ?latched, fun s t op i => event_keeps_pending⟩
  case notTaken =>
    have hnone (j : IrqNum) : s.takeable j = false := by
      rw [State.takeable, State.mayEnter_of_svc_ne_nil _ hsvc hnest, Bool.and_false]
    refine ⟨hnone i, noNext_irqTake (hnone i), ?_⟩
    rw [← Bool.not_eq_true, s.trapReq_iff_takeable]
    rintro ⟨j, hj⟩
    cases hj.symm.trans (hnone j)
  case latched =>
    obtain ⟨-, hlen, -, -, -⟩ := s.wf_iff.1 hwf
    exact irqLatch_sets hi (hlen ▸ hi) hhigh

/-- Settles O32: the clear keeps the level, which alone decides whether the line is latched again; the last clause is
`latch_or_write_of_pending_set`. -/
theorem clearedFlagReturnsOnlyByLatchOrWrite : Obligations.ClearedFlagReturnsOnlyByLatchOrWrite := by
  refine ⟨fun s i hwf hi => ?latchedAgain, fun s i hwf hi h7 => ?nothingToLatch,
    fun s t op i => latch_or_write_of_pending_set⟩
  case latchedAgain =>
    obtain ⟨-, hip, -, -, -⟩ := s.wf_iff.1 hwf
    have hlen : i.toNat < s.ip.length := hip ▸ hi
    have hkept : i.toNat < (bankWrite s.ip i.toNat 0).length := by rwa [bankWrite_length]
    exact ⟨_, exec_ipWrite_of_lt 0 hi, bankWrite_getD_self s.ip i.toNat 0 hlen,
      irqLatch_sets (s := (s.writeIp i 0).answerFree false) hi hkept⟩
  case nothingToLatch =>
    obtain ⟨-, hip, hlines, -, -⟩ := s.wf_iff.1 hwf
    have hnothing : exec (.irqLatch i) ((((s.writeLine i false).reply .event).writeIp i 0).answerFree false)
        = .refused .notEnabled :=
      exec_irqLatch_of_low hi (s.irqIn_writeLine_self false h7 (hlines ▸ hi))
    exact ⟨_, _, exec_lineLow_of_lt hi h7, exec_ipWrite_of_lt 0 hi, bankWrite_getD_self s.ip i.toNat 0 (hip ▸ hi),
      hnothing ▸ noNext_refused _⟩

/-! ## Exceptions (R232) -/

/-- Settles O26: `EXC_REPORT` looks at the mode of `TVEC` alone, so what is in service does not stop it. -/
theorem exceptionInsideAHandlerIsAccepted : Obligations.ExceptionInsideAHandlerIsAccepted := by
  intro code s _ hmode
  exact ⟨_, State.takeTrap_eq_next.2 ⟨beq_iff_eq.2 hmode, rfl⟩, exceptionCause_eq_setWidth code, rfl, rfl⟩

end Machine
end Sys2Proof

/-! Proofs about cause words (spec/30_encoding.md R76, spec/43_decoder.md): a word is the interrupt flag over 31 code bits, and
the table of R76 and `DECODE` both go by the source that `FROM_IRQ` names for the code. -/
namespace Sys2Proof
namespace Machine

/-! ## The two fields of a cause word (R17) -/

/-- A cause word is its two fields. -/
theorem causeWord_fields (w : Word) : causeWord (w.getLsbD 31) (causeCode w) = w := by
  have hbit (b : BitVec 1) : BitVec.ofBool (b == 1#1) = b := by revert b; decide
  rw [causeWord, BitVec.getLsbD_eq_extractLsb', hbit, causeCode]
  exact BitVec.extractLsb'_append_extractLsb'

theorem causeWord_true_eq_add (code : BitVec 31) : causeWord true code = 0x80000000#32 + code.setWidth 32 :=
  append_eq_add 1#1 code

theorem causeWord_bit (int : Bool) (code : BitVec 31) : (causeWord int code).getLsbD 31 = int := by
  rw [causeWord, BitVec.getLsbD_append, if_neg (by decide)]
  cases int <;> rfl

/-- Masking the flag leaves the code (R163). -/
theorem causeWord_and_mask (int : Bool) (code : BitVec 31) : causeWord int code &&& 0x7FFFFFFF#32 = code.setWidth 32 := by
  have hmask : 0x7FFFFFFF#32 = 0#1 ++ BitVec.allOnes 31 := rfl
  rw [causeWord, hmask, BitVec.and_append, BitVec.and_zero, BitVec.and_allOnes, append_eq_add]
  exact BitVec.zero_add _

theorem causeCode_setWidth (w : Word) : (causeCode w).setWidth 32 = w &&& 0x7FFFFFFF#32 := by
  rw [← causeWord_and_mask (w.getLsbD 31), causeWord_fields]

/-- An interrupt's word is `0x80000000 +` its code. -/
theorem eq_add_of_interrupt {w : Word} (hint : w.getLsbD 31 = true) : w = 0x80000000#32 + (w &&& 0x7FFFFFFF#32) := by
  rw [← causeCode_setWidth, ← causeWord_true_eq_add, ← hint, causeWord_fields]

/-- The word of a known number is an interrupt's, with that number as its code (R76). -/
theorem fields_add_of_mem : ∀ n ∈ sourceNumbers,
    (0x80000000#32 + n).getLsbD 31 = true ∧ (0x80000000#32 + n) &&& 0x7FFFFFFF#32 = n := by
  simp [sourceNumbers, sourceRows]

/-! ## The function of R163 -/

/-- `DECODE` goes to a handler exactly for an interrupt whose code is a known number. -/
theorem decodeTrapCause_eq (w : Word) :
    decodeTrapCause w = if w.getLsbD 31 = true ∧ fromIrq (w &&& 0x7FFFFFFF#32) ≠ .unknown
      then (.handler, fromIrq (w &&& 0x7FFFFFFF#32)) else (.exceptionPath, .unknown) := by
  rw [decodeTrapCause, causeInt, causeCode_setWidth]
  cases w.getLsbD 31 <;> cases fromIrq (w &&& 0x7FFFFFFF#32) <;> rfl

theorem decodeTrapCause_of_handler {w : Word} (hint : w.getLsbD 31 = true) (hknown : fromIrq (w &&& 0x7FFFFFFF#32) ≠ .unknown) :
    decodeTrapCause w = (.handler, fromIrq (w &&& 0x7FFFFFFF#32)) := by
  rw [decodeTrapCause_eq, if_pos ⟨hint, hknown⟩]

theorem decodeTrapCause_of_not_handler {w : Word} (h : w.getLsbD 31 = true → fromIrq (w &&& 0x7FFFFFFF#32) = .unknown) :
    decodeTrapCause w = (.exceptionPath, .unknown) := by
  rw [decodeTrapCause_eq, if_neg (fun ⟨hint, hknown⟩ => hknown (h hint))]

theorem exec_decodeCause (w : Word) (s : State) :
    exec (.decodeCause w) s = .next (s.reply (.decoded (decodeTrapCause w).1 (decodeTrapCause w).2)) := rfl

/-- Settles O37: the three clauses are the branches of `decodeTrapCause_eq`. -/
theorem decodeSelectsThePath : Obligations.DecodeSelectsThePath := by
  intro w s
  refine ⟨fun hexc => ?exception, fun hint hunknown => ?unknown, fun hint hknown => ?known⟩
  case exception => rw [exec_decodeCause, decodeTrapCause_of_not_handler (by rw [hexc]; exact nofun), State.reply]
  case unknown => rw [exec_decodeCause, decodeTrapCause_of_not_handler (fun _ => hunknown), State.reply]
  case known => rw [exec_decodeCause, decodeTrapCause_of_handler hint hknown, State.reply]

/-! ## The table of R76 -/

/-- The class of R76 that belongs to a source. -/
def classOfSource : Source → CauseClass
  | .machineSoft => .machineSoft
  | .machineTimer => .machineTimer
  | .machineExternal => .machineExternal
  | .gpio => .gpio
  | .timerCh0 => .timerCh0
  | .timerCh1 => .timerCh1
  | .watchdog => .watchdog
  | .dma => .dma
  | .spi => .spi
  | .uart0 => .uart0
  | .uart1 => .uart1
  | .i2c => .i2c
  | .pwm => .pwm
  | .unknown => .unknownIrq

/-- The rows of the table: the exceptions, one word for each known number, and the fallback. -/
theorem causeTable_rows : ∀ r ∈ causeTable,
    (r.value = 0#32 ∧ r.mask = 0x80000000#32) ∨ (r.mask = BitVec.allOnes 32 ∧ r.value ∈ sourceNumbers.map (0x80000000#32 + ·)) ∨
      r.cls = .unknownIrq := by
  decide

/-- A row with the flag alone in its mask compares the flag. -/
theorem hits_flag_iff {w : Word} {value : Word} (hvalue : value &&& 0x80000000#32 = value) :
    hits w value 0x80000000#32 = true ↔ w.getLsbD 31 = value.getLsbD 31 := by
  have hbit (x y : BitVec 1) : x = y ↔ (x == 1#1) = (y == 1#1) := by revert x y; decide
  rw [hits_iff_field (mask := 0x80000000#32) 31 1 (by decide) rfl hvalue, BitVec.getLsbD_eq_extractLsb',
    BitVec.getLsbD_eq_extractLsb', ← hbit]

theorem classify_of_exception {w : Word} (hexc : w.getLsbD 31 = false) : classify w = .exception := by
  have hfirst : hits w 0x00000000#32 0x80000000#32 = true := (hits_flag_iff rfl).2 hexc
  have hfind : causeTable.find? (fun r => hits w r.value r.mask) = some ⟨.exception, 0x00000000, 0x80000000⟩ :=
    List.find?_cons_of_pos hfirst
  rw [classify, hfind]

/-- The word of a known number has the row of its source. -/
theorem classify_of_toIrq {src : Source} {n : Word} (h : toIrq src = some n) :
    classify (0x80000000#32 + n) = classOfSource src := by
  cases src <;> cases h <;> rfl

/-- An interrupt of no known number misses every row but the last. -/
theorem classify_of_unknown {w : Word} (hint : w.getLsbD 31 = true) (hunknown : fromIrq (w &&& 0x7FFFFFFF#32) = .unknown) :
    classify w = .unknownIrq := by
  rw [classify]
  split
  next r hfind =>
    have hhits : hits w r.value r.mask = true := List.find?_some (p := fun r : CauseRow => hits w r.value r.mask) hfind
    rcases causeTable_rows r (List.mem_of_find?_eq_some hfind) with ⟨hvalue, hmask⟩ | ⟨hmask, hvalue⟩ | hlast
    · rw [hvalue, hmask, hits_flag_iff rfl, hint] at hhits
      cases hhits
    · rw [hits, hmask, BitVec.and_allOnes, beq_iff_eq] at hhits
      obtain ⟨n, hn, hw⟩ := List.mem_map.1 (hhits ▸ hvalue)
      rw [← hw, (fields_add_of_mem n hn).2] at hunknown
      exact absurd hn (fromIrq_eq_unknown_iff.1 hunknown)
    · exact hlast
  next => rfl

/-- The class of a word is that of the source `FROM_IRQ` names for its code. -/
theorem classify_eq (w : Word) :
    classify w = if w.getLsbD 31 = true then classOfSource (fromIrq (w &&& 0x7FFFFFFF#32)) else .exception := by
  by_cases hint : w.getLsbD 31 = true
  · rw [if_pos hint]
    by_cases hknown : fromIrq (w &&& 0x7FFFFFFF#32) = .unknown
    · rw [classify_of_unknown hint hknown, hknown, classOfSource]
    · rw [← classify_of_toIrq (toIrq_fromIrq_of_known hknown), ← eq_add_of_interrupt hint]
  · rw [if_neg hint, classify_of_exception (Bool.eq_false_iff.2 hint)]

theorem classOfSource_ne_exception (src : Source) : classOfSource src ≠ .exception := by
  cases src <;> decide

theorem classOfSource_eq_unknownIrq_iff (src : Source) : classOfSource src = .unknownIrq ↔ src = .unknown := by
  cases src <;> decide

/-- Each row's class is that of its source and of no other. -/
theorem classOfSource_eq_row_iff (src : Source) : ∀ row ∈ sourceRows, classOfSource src = row.2.1 ↔ src = row.2.2.1 := by
  cases src <;> decide

/-- The rows of the sources are no fallback and no exception. -/
theorem row_ne : ∀ row ∈ sourceRows, row.2.1 ≠ .exception ∧ row.2.2.1 ≠ .unknown := by
  decide

/-- A row's class is the words that `DECODE` sends to that row's handler. -/
theorem classify_eq_row_iff (w : Word) {row : Instr × CauseClass × Source × Word} (hrow : row ∈ sourceRows) :
    classify w = row.2.1 ↔ w.getLsbD 31 = true ∧ fromIrq (w &&& 0x7FFFFFFF#32) = row.2.2.1 := by
  rw [classify_eq, ← classOfSource_eq_row_iff _ row hrow]
  by_cases hint : w.getLsbD 31 = true
  · rw [if_pos hint, and_iff_right hint]
  · rw [if_neg hint]
    exact ⟨fun h => absurd h.symm (row_ne row hrow).1, fun h => absurd h.1 hint⟩

/-- `FROM_IRQ` names a row's source for the row's number and no other (R162). -/
theorem fromIrq_eq_row_iff (n : Word) {row : Instr × CauseClass × Source × Word} (hrow : row ∈ sourceRows) :
    fromIrq n = row.2.2.1 ↔ n = row.2.2.2 := by
  have hnumber : toIrq row.2.2.1 = some row.2.2.2 := toIrq_of_mem_sourceRows row hrow
  constructor
  · intro h
    have hn : toIrq (fromIrq n) = some n := toIrq_fromIrq_of_known (h ▸ (row_ne row hrow).2)
    rw [h, hnumber] at hn
    exact (Option.some.inj hn).symm
  · rintro rfl
    exact fromIrq_of_toIrq hnumber

/-- A word is an interrupt's with a known number as its code exactly when it is `0x80000000 +` the number. -/
theorem interrupt_iff_eq_add {w n : Word} (hn : n ∈ sourceNumbers) :
    w.getLsbD 31 = true ∧ w &&& 0x7FFFFFFF#32 = n ↔ w = 0x80000000#32 + n := by
  constructor
  · rintro ⟨hint, rfl⟩
    exact eq_add_of_interrupt hint
  · rintro rfl
    exact fields_add_of_mem n hn

theorem mem_sourceNumbers_of_row {row : Instr × CauseClass × Source × Word} (hrow : row ∈ sourceRows) :
    row.2.2.2 ∈ sourceNumbers :=
  List.mem_map_of_mem hrow

theorem decodeTrapCause_eq_handler_iff {w : Word} {src : Source} (hknown : src ≠ .unknown) :
    decodeTrapCause w = (.handler, src) ↔ w.getLsbD 31 = true ∧ fromIrq (w &&& 0x7FFFFFFF#32) = src := by
  rw [decodeTrapCause_eq]
  split_ifs with h
  · simp [h.1]
  · simp only [Prod.mk.injEq, reduceCtorEq, false_and, false_iff]
    rintro ⟨hint, rfl⟩
    exact h ⟨hint, hknown⟩

/-- Settles O5: each class by `classify_eq`, each path by `decodeTrapCause_eq`, both in terms of the flag and `FROM_IRQ`. -/
theorem causeClassesAgreeWithDecode : Obligations.CauseClassesAgreeWithDecode := by
  intro w
  refine ⟨?exception, fun row hrow => ⟨?handler, ?word⟩, ?unknown⟩
  case exception =>
    rw [classify_eq]
    cases w.getLsbD 31 <;> simp [classOfSource_ne_exception]
  case handler => rw [classify_eq_row_iff w hrow, decodeTrapCause_eq_handler_iff (row_ne row hrow).2]
  case word =>
    rw [classify_eq_row_iff w hrow, fromIrq_eq_row_iff _ hrow, interrupt_iff_eq_add (mem_sourceNumbers_of_row hrow)]
  case unknown =>
    rw [classify_eq, decodeTrapCause_eq]
    cases w.getLsbD 31 <;> simp [classOfSource_eq_unknownIrq_iff]

/-- Of the known numbers exactly 3, 7 and 11 are below 16. -/
theorem number_below_threshold : ∀ n ∈ sourceNumbers, n.toNat < 16 → n = 3 ∨ n = 7 ∨ n = 11 := by
  simp [sourceNumbers, sourceRows]

/-- Settles O40: a word that reaches a handler is `0x80000000 +` a known number, and `number_below_threshold` lists those. -/
theorem codesBelowThresholdReachThreeHandlers : Obligations.CodesBelowThresholdReachThreeHandlers := by
  intro w hint hlow
  constructor
  · intro hpath
    have hmem : w &&& 0x7FFFFFFF#32 ∈ sourceNumbers := by
      by_contra hnot
      rw [decodeTrapCause_of_not_handler (fun _ => fromIrq_eq_unknown_iff.2 hnot)] at hpath
      cases hpath
    rw [eq_add_of_interrupt hint]
    rcases number_below_threshold _ hmem hlow with hn | hn | hn <;> rw [hn] <;> decide
  · rintro (rfl | rfl | rfl) <;> rfl

/-! ## What a cause word and the decoder's functions answer (R76, R160, R161) -/

/-- The operation of a row presents `0x80000000 +` the row's number (R76). -/
theorem exec_row (s : State) : ∀ row ∈ sourceRows, exec row.1 s = .next (s.presentCause (0x80000000#32 + row.2.2.2)) := by
  simp only [sourceRows, List.forall_mem_cons, List.not_mem_nil, false_implies, implies_true, and_true]
  exact ⟨rfl, rfl, rfl, rfl, rfl, rfl, rfl, rfl, rfl, rfl, rfl, rfl, rfl⟩

theorem presentCause_eq (s : State) {w : Word} {cls : CauseClass} {path : Path} {src : Source} (hcls : classify w = cls)
    (hpath : decodeTrapCause w = (path, src)) : s.presentCause w = s.reply (.classified cls path src) := by
  rw [State.presentCause, hcls, hpath]

/-- The code of an interrupt word of no row is no known number. -/
theorem fromIrq_causeWord_of_no_row {code : BitVec 31} (hno : ∀ row ∈ sourceRows, code.setWidth 32 ≠ row.2.2.2) :
    fromIrq (causeWord true code &&& 0x7FFFFFFF#32) = .unknown := by
  rw [causeWord_and_mask, fromIrq_eq_unknown_iff]
  intro hmem
  obtain ⟨row, hrow, hcode⟩ := List.mem_map.1 hmem
  exact hno row hrow hcode.symm

/-- Settles O39: each kind of word by its class and by its path. -/
theorem causeRowsAnswerTheirClass : Obligations.CauseRowsAnswerTheirClass := by
  intro s
  refine ⟨fun code => ?exception, fun row hrow => ?row, fun code hno => ?unknown⟩
  case exception =>
    have hexc : (causeWord false code).getLsbD 31 = false := causeWord_bit false code
    have hpath := decodeTrapCause_of_not_handler (w := causeWord false code) (by rw [hexc]; exact nofun)
    exact congrArg _ (presentCause_eq s (classify_of_exception hexc) hpath)
  case row =>
    have hn := mem_sourceNumbers_of_row hrow
    obtain ⟨hint, hcode⟩ := fields_add_of_mem _ hn
    have hword : (0x80000000#32 + row.2.2.2).getLsbD 31 = true ∧
        fromIrq ((0x80000000#32 + row.2.2.2) &&& 0x7FFFFFFF#32) = row.2.2.1 :=
      ⟨hint, hcode.symm ▸ (fromIrq_eq_row_iff _ hrow).2 rfl⟩
    rw [exec_row s row hrow]
    exact congrArg _ (presentCause_eq s ((classify_eq_row_iff _ hrow).2 hword)
      ((decodeTrapCause_eq_handler_iff (row_ne row hrow).2).2 hword))
  case unknown =>
    have hint : (causeWord true code).getLsbD 31 = true := causeWord_bit true code
    have hunknown := fromIrq_causeWord_of_no_row hno
    have hpath := decodeTrapCause_of_not_handler (fun _ => hunknown)
    exact congrArg _ (presentCause_eq s (classify_of_unknown hint hunknown) hpath)

theorem exec_fromIrq (n : Word) (s : State) : exec (.fromIrq n) s = .next (s.reply (.source (fromIrq n))) := rfl

/-- Settles O35: a row's number names the row's source, and a number of no row is none of `sourceNumbers`. -/
theorem fromIrqNamesTheSource : Obligations.FromIrqNamesTheSource := by
  intro n s
  refine ⟨fun row hrow hn => ?known, fun hno => ?unknown⟩
  case known => rw [exec_fromIrq, (fromIrq_eq_row_iff n hrow).2 hn, State.reply]
  case unknown =>
    have hunknown : fromIrq n = .unknown := fromIrq_eq_unknown_iff.2 fun hmem => by
      obtain ⟨row, hrow, hn⟩ := List.mem_map.1 hmem
      exact hno row hrow hn.symm
    rw [exec_fromIrq, hunknown, State.reply]

/-- Settles O36: a row's source has the row's number, and `Unknown` has none. -/
theorem toIrqGivesTheNumber : Obligations.ToIrqGivesTheNumber :=
  fun s => ⟨fun row hrow => exec_toIrq_of_some (toIrq_of_mem_sourceRows row hrow) s, rfl⟩

end Machine
end Sys2Proof

/-! Proofs about the encoder and the rows of R72 (spec/30_encoding.md): the encoder puts each field where the decoder's rows look
for it, and no key hits two rows. -/
namespace Sys2Proof
namespace Machine

/-! ## Decoding what the encoder writes (R70 to R77) -/

theorem ipAddr_eq_page_append (i : IrqNum) : ipAddr i = bankPage false ++ i := by
  have hi : i.toNat ≤ 0x3FF := Nat.le_of_lt_succ i.isLt
  have h := bankAddr_eq_page_append false hi
  rwa [BitVec.ofNat_toNat, BitVec.setWidth_eq] at h

theorem ieAddr_eq_page_append (i : IrqNum) : ieAddr i = bankPage true ++ i := by
  have hi : i.toNat ≤ 0x3FF := Nat.le_of_lt_succ i.isLt
  have h := bankAddr_eq_page_append true hi
  rwa [BitVec.ofNat_toNat, BitVec.setWidth_eq] at h

/-- A byte travels in the low bits of `wdata` (R71). -/
theorem byte_of_wdata (v : Byte) : (v.setWidth 64).extractLsb' 0 8 = v := by
  rw [BitVec.extractLsb'_setWidth_of_le (by decide), BitVec.extractLsb'_eq_self]

/-- Format M. -/
theorem decode_encode_of_format_m {op : Instr} (h : op.format = .m) : decode (encode op) = .ok op := by
  cases op with
  | ipRead i => rw [encode, ipAddr_eq_page_append, decode_bankAccess, bankOp]
  | ieRead i => rw [encode, ieAddr_eq_page_append, decode_bankAccess, bankOp]
  | ipWrite i v => rw [encode, ipAddr_eq_page_append, decode_bankAccess, byte_of_wdata, bankOp]
  | ieWrite i v => rw [encode, ieAddr_eq_page_append, decode_bankAccess, byte_of_wdata, bankOp]
  | mtimeRead | mtimecmpRead | mtimecmpWrite | mtimeWrite => rfl
  | _ => cases h

/-- Format S. -/
theorem decode_encode_of_format_s {op : Instr} (h : op.format = .s) : decode (encode op) = .ok op := by
  have hcmd (cmd : BitVec 4) (arg : Word) : (cmd ++ arg).extractLsb' 32 4 = cmd := BitVec.extractLsb'_append_eq_left
  have harg (cmd : BitVec 4) (arg : Word) : (cmd ++ arg).extractLsb' 0 32 = arg := BitVec.extractLsb'_append_eq_right
  have hcode (cmd : BitVec 4) (code : BitVec 31) : (cmd ++ code.setWidth 32).extractLsb' 0 31 = code := by
    rw [BitVec.extractLsb'_append_eq_of_add_le (by decide), BitVec.extractLsb'_setWidth_of_le (by decide),
      BitVec.extractLsb'_eq_self]
  cases op with
  | causeRead | tvecRead | tvecWrite | gieRead | gieSet | gieClear | excReport | trapReturn =>
    simp (disch := decide) [encode, decode, decodeSideband, sidebandWord, hits_iff_cmd, lowWord, hcmd, harg, hcode]
  | _ => cases h

/-- Format E; the line events of line 7 are the ill-formed ones (R82). -/
theorem decode_encode_of_format_e {op : Instr} (h : op.format = .e) (hwf : op.wf = true) : decode (encode op) = .ok op := by
  have hkind (kind : BitVec 3) (idx : IrqNum) : (kind ++ idx).extractLsb' 10 3 = kind := BitVec.extractLsb'_append_eq_left
  have hidx (kind : BitVec 3) (idx : IrqNum) : (kind ++ idx).extractLsb' 0 10 = idx := BitVec.extractLsb'_append_eq_right
  cases op with
  | tick => rfl
  | irqLatch | irqTake =>
    simp (disch := decide) [encode, decode, decodeEvent, eventWord, hits_tick_iff, hits_iff_kind, lowIndex, hkind, hidx]
  | lineHigh | lineLow =>
    have hline : environmentDrives _ = true := hwf
    simp (disch := decide) [encode, decode, decodeEvent, eventWord, hits_tick_iff, hits_iff_kind, lowIndex, hkind, hidx, hline]
  | _ => cases h

theorem sourceOfId_id (src : Source) : Source.ofId src.id = some src := by
  cases src <;> rfl

/-- Format F. -/
theorem decode_encode_of_format_f {op : Instr} (h : op.format = .f) : decode (encode op) = .ok op := by
  have hfn (fn : BitVec 2) (arg : Word) : (fn ++ arg).extractLsb' 32 2 = fn := BitVec.extractLsb'_append_eq_left
  have harg (fn : BitVec 2) (arg : Word) : (fn ++ arg).extractLsb' 0 32 = arg := BitVec.extractLsb'_append_eq_right
  cases op with
  | fromIrq | decodeCause =>
    simp (disch := decide) [encode, decode, decodeFunc, funcWord, hits_iff_fn, lowWord, hfn, harg]
  | toIrq src =>
    have habove : (1#2 ++ src.id.setWidth 32).extractLsb' 4 28 = 0#28 := by cases src <;> rfl
    have hid : (1#2 ++ src.id.setWidth 32).extractLsb' 0 4 = src.id := by cases src <;> rfl
    simp (disch := decide) [encode, decode, decodeFunc, funcWord, hits_iff_fn, hits_aboveId_iff, hfn, habove, hid, sourceOfId_id]
  | _ => cases h

theorem causeCode_causeWord (int : Bool) (code : BitVec 31) : causeCode (causeWord int code) = code :=
  BitVec.extractLsb'_append_eq_right

/-- The list of known numbers that `UNKNOWN_IRQ` is checked against is that of the rows. -/
theorem knownIrqs_perm_sourceNumbers : knownIrqs.Perm sourceNumbers := by
  decide

/-- Format C; the words of the known numbers are ill-formed as `UNKNOWN_IRQ` (R76). -/
theorem decode_encode_of_format_c {op : Instr} (h : op.format = .c) (hwf : op.wf = true) : decode (encode op) = .ok op := by
  cases op with
  | causeException code =>
    have hcls : classify (causeWord false code) = .exception := classify_of_exception (causeWord_bit false code)
    simp only [encode, decode, decodeCauseWord, hcls, causeCode_causeWord]
  | causeUnknownIrq code =>
    have hunknown : fromIrq (causeWord true code &&& 0x7FFFFFFF#32) = .unknown := by
      rw [causeWord_and_mask, fromIrq_eq_unknown_iff, ← knownIrqs_perm_sourceNumbers.mem_iff]
      simpa [Instr.wf, codeIsUnknown] using hwf
    have hcls : classify (causeWord true code) = .unknownIrq := classify_of_unknown (causeWord_bit true code) hunknown
    simp only [encode, decode, decodeCauseWord, hcls, causeCode_causeWord]
  | causeMachineSoft | causeMachineTimer | causeMachineExternal | causeDma | causeSpi | causeUart0 | causeUart1 | causeI2c
  | causePwm | causeTimerCh0 | causeTimerCh1 | causeWatchdog | causeGpio => rfl
  | _ => cases h

/-- A call carries its operation (R85). -/
theorem decode_encode_of_format_pseudo {op : Instr} (h : op.format = .pseudo) : decode (encode op) = .ok op := by
  cases op with
  | enableInterrupt | disableInterrupt | clearInterrupt | tryNew | getTicks | getTimeMs | getTimeUs | setTimecmp
  | setupInterrupts | dispatch => rfl
  | _ => cases h

/-- Settles O2, one format after the other. -/
theorem decodeInvertsEncode : Obligations.DecodeInvertsEncode := by
  intro op hwf
  cases hformat : op.format with
  | m => exact decode_encode_of_format_m hformat
  | s => exact decode_encode_of_format_s hformat
  | e => exact decode_encode_of_format_e hformat hwf
  | f => exact decode_encode_of_format_f hformat
  | c => exact decode_encode_of_format_c hformat hwf
  | pseudo => exact decode_encode_of_format_pseudo hformat

/-- Settles O1: each word is evaluated by the table of its format. -/
theorem wordsOfTheTablesDecode : Obligations.WordsOfTheTablesDecode := by
  refine ⟨?_, ?_, ?_, ?_, ?_, ?_, ?_, ?_, ?_, ?_, ?_, ?_⟩ <;> decide

/-! ## The rows of R72 -/

/-- A decoder answers an operation where a row is hit and answers it, or the rows after it do. -/
theorem row_eq_ok_iff {c : Prop} [Decidable c] {op op' : Instr} {others : Decoded} :
    (if c then .ok op else others) = .ok op' ↔ (c ∧ op = op') ∨ (¬ c ∧ others = .ok op') := by
  by_cases hc : c <;> simp [hc]

/-- Settles O3: a row's operation is answered where the row is hit and no row above it is, and a key with the bits of a row
has the bits of no other. -/
theorem mmioRowsDecideTheKey : Obligations.MmioRowsDecideTheKey := by
  intro key wdata
  have hall : key &&& 0x7FFFFFFFF#35 = key := BitVec.and_allOnes
  simp only [decode, decodeMmio, row_eq_ok_iff, hits, beq_iff_eq, hall, lowIndex, reduceCtorEq, and_false, false_or, or_false,
    and_true, true_and]
  refine ⟨?_, ?_, ?_, ?_, ?_, ?_, ?_⟩
  all_goals exact ⟨fun hrow => by simp [hrow], fun hrow => by tauto⟩

end Machine
end Sys2Proof

/-! Proofs about the steps and the MMIO port (spec/20_memory.md): what each kind of turn runs, and a transaction compared with
`MemRead` and `MemWrite` row by row. -/
namespace Sys2Proof
namespace Machine

/-! ## Steps (R55) -/

/-- A request at an address with no register, in a window, is answered by the error response (R49). -/
theorem step_of_busError {s : State} {r : Request} {rest : List Turn} {a : Word} (hagenda : s.agenda = .request r :: rest)
    (herror : decode r = .error (.busError a)) : step s = .next ((s.withAgenda rest).onlyAnswered true) := by
  have hfetch : fetch s = .busError (s.withAgenda rest) := by
    simp only [fetch, hagenda, fetchRequest, herror]
  rw [step, hfetch]
  rfl

/-- A request outside the windows is refused (R41). -/
theorem step_of_notThisBlock {s : State} {r : Request} {rest : List Turn} (hagenda : s.agenda = .request r :: rest)
    (herror : decode r = .error .notThisBlock) : step s = .refused .notThisBlock := by
  have hfetch : fetch s = .refused .notThisBlock := by
    simp only [fetch, hagenda, fetchRequest, herror]
  rw [step, hfetch]

/-- A `resume` turn runs the next operation of the innermost call (log 14). -/
theorem step_of_resume {s : State} {rest : List Turn} {op : Instr} {todo : List Instr} {outer : List (List Instr)}
    (hagenda : s.agenda = .resume :: rest) (hcalls : s.calls = (op :: todo) :: outer) :
    step s = exec op { s with agenda := rest, calls := callsAfter todo outer } := by
  have hfetch : fetch s = .run op { s with agenda := rest, calls := callsAfter todo outer } := by
    simp only [fetch, hagenda, fetchResume, State.withAgenda_calls, hcalls]
    rfl
  rw [step, hfetch]

theorem step_of_agenda_nil {s : State} (hagenda : s.agenda = []) : step s = .refused .endOfRun := by
  have hfetch : fetch s = .refused .endOfRun := by simp only [fetch, hagenda]
  rw [step, hfetch]

/-- Settles O6, one lemma for each kind of turn. -/
theorem stepRunsTheDecodedOperation : Obligations.StepRunsTheDecodedOperation :=
  ⟨fun _ _ _ _ => step_of_decode, fun _ _ _ _ => step_of_busError,
    fun _ _ _ _ _ _ hagenda => ⟨step_of_resume hagenda, step_of_resume hagenda⟩, fun _ => step_of_agenda_nil⟩

/-! ## The port and the memory primitives (R44, R45, R72) -/

/-- A row with a bank's mask compares the key above the index. -/
theorem hits_bankRow_iff {key value : BitVec 35} (hvalue : value &&& 0x7FFFFFC00#35 = value) :
    hits key value 0x7FFFFFC00#35 = true ↔ key.toNat / 2 ^ 10 = value.toNat / 2 ^ 10 := by
  have hfield (x : BitVec 35) : (x.extractLsb' 10 25).toNat = x.toNat / 2 ^ 10 := by
    rw [BitVec.extractLsb'_toNat, Nat.shiftRight_eq_div_pow]
    exact Nat.mod_eq_of_lt (by have := x.isLt; omega)
  rw [hits_iff_field (mask := 0x7FFFFFC00#35) 10 25 (by decide) rfl hvalue, ← BitVec.toNat_inj, hfield, hfield]

/-- A row with a full mask compares the whole key. -/
theorem hits_timerRow_iff {key value : BitVec 35} : hits key value 0x7FFFFFFFF#35 = true ↔ key.toNat = value.toNat := by
  have hall : key &&& 0x7FFFFFFFF#35 = key := BitVec.and_allOnes
  rw [hits, hall, beq_iff_eq, BitVec.toNat_inj]

/-- What a key is, as a number: one of the rows of R72, or no register. -/
inductive MmioRow (key : BitVec 35) (wdata : DWord) : Decoded → Prop
  | ipRead : key.toNat / 2 ^ 10 = 0x000A000 → MmioRow key wdata (.ok (.ipRead (lowIndex key)))
  | ipWrite : key.toNat / 2 ^ 10 = 0x100A000 → MmioRow key wdata (.ok (.ipWrite (lowIndex key) (wdata.extractLsb' 0 8)))
  | ieRead : key.toNat / 2 ^ 10 = 0x000A001 → MmioRow key wdata (.ok (.ieRead (lowIndex key)))
  | ieWrite : key.toNat / 2 ^ 10 = 0x100A001 → MmioRow key wdata (.ok (.ieWrite (lowIndex key) (wdata.extractLsb' 0 8)))
  | mtimeRead : key.toNat = 0x30200BFF8 → MmioRow key wdata (.ok .mtimeRead)
  | mtimecmpRead : key.toNat = 0x302004000 → MmioRow key wdata (.ok .mtimecmpRead)
  | mtimecmpWrite : key.toNat = 0x702004000 → MmioRow key wdata (.ok (.mtimecmpWrite wdata))
  | mtimeWrite : key.toNat = 0x70200BFF8 → MmioRow key wdata (.ok (.mtimeWrite wdata))
  | noRegister : (key.toNat / 2 ^ 10 ≠ 0x000A000 ∧ key.toNat / 2 ^ 10 ≠ 0x100A000 ∧ key.toNat / 2 ^ 10 ≠ 0x000A001 ∧
      key.toNat / 2 ^ 10 ≠ 0x100A001) →
      (key.toNat ≠ 0x30200BFF8 ∧ key.toNat ≠ 0x302004000 ∧ key.toNat ≠ 0x702004000) →
      MmioRow key wdata (.error (noRegister (lowWord key)))

theorem mmioRow_decodeMmio (key : BitVec 35) (wdata : DWord) : MmioRow key wdata (decodeMmio key wdata) := by
  have hipRead := hits_bankRow_iff (key := key) (value := 0x002800000#35) rfl
  have hipWrite := hits_bankRow_iff (key := key) (value := 0x402800000#35) rfl
  have hieRead := hits_bankRow_iff (key := key) (value := 0x002800400#35) rfl
  have hieWrite := hits_bankRow_iff (key := key) (value := 0x402800400#35) rfl
  have hmtimeRead := hits_timerRow_iff (key := key) (value := 0x30200BFF8#35)
  have hmtimecmpRead := hits_timerRow_iff (key := key) (value := 0x302004000#35)
  have hmtimecmpWrite := hits_timerRow_iff (key := key) (value := 0x702004000#35)
  fun_cases decodeMmio key wdata
  case case1 h1 => exact .ipRead (hipRead.1 h1)
  case case2 h2 => exact .ipWrite (hipWrite.1 h2)
  case case3 h3 => exact .ieRead (hieRead.1 h3)
  case case4 h4 => exact .ieWrite (hieWrite.1 h4)
  case case5 h5 => exact .mtimeRead (hmtimeRead.1 h5)
  case case6 h6 => exact .mtimecmpRead (hmtimecmpRead.1 h6)
  case case7 h7 => exact .mtimecmpWrite (hmtimecmpWrite.1 h7)
  case case8 h8 => exact .mtimeWrite (hits_timerRow_iff.1 h8)
  case case9 h1 h2 h3 h4 h5 h6 h7 h8 =>
    exact .noRegister ⟨mt hipRead.2 h1, mt hipWrite.2 h2, mt hieRead.2 h3, mt hieWrite.2 h4⟩
      ⟨mt hmtimeRead.2 h5, mt hmtimecmpRead.2 h6, mt hmtimecmpWrite.2 h7⟩

/-! The fields of a key, as numbers. -/

theorem toNat_lowIndex (key : BitVec 35) : (lowIndex key).toNat = key.toNat % 2 ^ 10 := by
  simp [lowIndex]

theorem toNat_lowWord (key : BitVec 35) : (lowWord key).toNat = key.toNat % 2 ^ 32 := by
  simp [lowWord]

theorem toNat_size (key : BitVec 35) : (key.extractLsb' 32 2).toNat = key.toNat / 2 ^ 32 % 4 := by
  simp [Nat.shiftRight_eq_div_pow]

/-- Bit 34 is `we` (R71). -/
theorem we_eq_decide (key : BitVec 35) : key.getLsbD 34 = decide (2 ^ 34 ≤ key.toNat) :=
  BitVec.msb_eq_decide key

/-- An access is of 1 byte for the size 0 and of 8 bytes for the size 3 (R71). -/
theorem two_pow_size_iff (k : Nat) : (2 ^ k = 1 ↔ k = 0) ∧ (2 ^ k = 8 ↔ k = 3) :=
  ⟨(Nat.pow_right_injective (le_refl 2)).eq_iff (b := 0), (Nat.pow_right_injective (le_refl 2)).eq_iff (b := 3)⟩

/-! The primitives, one lemma for each register. -/

/-- The accesses to a bank entry the block has (R44). -/
def State.inBank (s : State) (a n : Nat) : Prop :=
  n = 1 ∧ ((Config.ipBase ≤ a ∧ a < Config.ipBase + s.nIrq) ∨ (Config.ieBase ≤ a ∧ a < Config.ieBase + s.nIrq))

/-- The enable bank lies behind the pending bank. -/
theorem ieBase_not_in_ip (s : State) (i : Nat) : ¬ (Config.ieBase + i < Config.ipBase + s.cfg.nIrq) := by
  have hmax : s.cfg.nIrq ≤ 1024 := s.cfg.nIrq_upper
  have hbase : Config.ieBase = Config.ipBase + 1024 := rfl
  omega

theorem State.memRead_ip (s : State) {addr : Word} {i : Nat} (haddr : addr.toNat = Config.ipBase + i) (hi : i < s.nIrq) :
    s.memRead addr 1 = .done ((bankRead s.ip i).setWidth 64) := by
  rw [State.nIrq_eq] at hi
  simp [State.memRead, haddr, hi]

theorem State.memRead_ie (s : State) {addr : Word} {i : Nat} (haddr : addr.toNat = Config.ieBase + i) (hi : i < s.nIrq) :
    s.memRead addr 1 = .done ((bankRead s.ie i).setWidth 64) := by
  rw [State.nIrq_eq] at hi
  simp [State.memRead, haddr, hi, ieBase_not_in_ip]

theorem State.memRead_mtime (s : State) {addr : Word} (haddr : addr.toNat = Config.mtimeAddr) :
    s.memRead addr 8 = .done s.mtime := by
  simp [State.memRead, haddr]

theorem State.memRead_mtimecmp (s : State) {addr : Word} (haddr : addr.toNat = Config.mtimecmpAddr) :
    s.memRead addr 8 = .done s.mtimecmp := by
  have hne : Config.mtimecmpAddr ≠ Config.mtimeAddr := by decide
  simp [State.memRead, haddr, hne]

theorem State.memRead_of_none (s : State) {addr : Word} {n : Nat} (hbank : ¬ s.inBank addr.toNat n)
    (htimer : ¬ (n = 8 ∧ (addr.toNat = Config.mtimeAddr ∨ addr.toNat = Config.mtimecmpAddr))) :
    s.memRead addr n = noAccess addr := by
  unfold State.inBank at hbank
  unfold State.memRead
  simp only
  rw [if_neg (by tauto), if_neg (by tauto), if_neg (by tauto), if_neg (by tauto)]

theorem State.memWrite_ip (s : State) {addr : Word} {i : IrqNum} (haddr : addr.toNat = Config.ipBase + i.toNat)
    (hi : i.toNat < s.nIrq) (v : DWord) : s.memWrite addr 1 v = .done (s.writeIp i (v.extractLsb' 0 8)) := by
  rw [State.nIrq_eq] at hi
  simp [State.memWrite, haddr, hi]

theorem State.memWrite_ie (s : State) {addr : Word} {i : IrqNum} (haddr : addr.toNat = Config.ieBase + i.toNat)
    (hi : i.toNat < s.nIrq) (v : DWord) : s.memWrite addr 1 v = .done (s.writeIe i (v.extractLsb' 0 8)) := by
  rw [State.nIrq_eq] at hi
  simp [State.memWrite, haddr, hi, ieBase_not_in_ip]

theorem State.memWrite_mtimecmp (s : State) {addr : Word} (haddr : addr.toNat = Config.mtimecmpAddr) (v : DWord) :
    s.memWrite addr 8 v = .done (s.writeMtimecmp v) := by
  simp [State.memWrite, haddr]

theorem State.memWrite_of_none (s : State) {addr : Word} {n : Nat} (hbank : ¬ s.inBank addr.toNat n)
    (htimer : ¬ (n = 8 ∧ addr.toNat = Config.mtimecmpAddr)) (v : DWord) : s.memWrite addr n v = noAccess addr := by
  unfold State.inBank at hbank
  unfold State.memWrite
  simp only
  rw [if_neg (by tauto), if_neg (by tauto), if_neg (by tauto)]

theorem noAccess_of_inWindow {α : Type} {addr : Word} (h : inWindow addr = true) : (noAccess addr : MemAnswer α) = .busError :=
  if_pos h

/-- The controller window holds both banks at every index (R41). -/
theorem inWindow_of_bank {addr : Word} {base : Nat} {i : IrqNum} (hbase : base = Config.ipBase ∨ base = Config.ieBase)
    (haddr : addr.toNat = base + i.toNat) : inWindow addr = true := by
  have hi : i.toNat < 1024 := i.isLt
  have hbounds : Config.clicBase ≤ addr.toNat ∧ addr.toNat ≤ Config.clicWindowEnd := by
    rw [haddr]
    rcases hbase with rfl | rfl <;>
      simp only [Config.ipBase, Config.ieBase, Config.clicBase, Config.ipOff, Config.ieOff, Config.clicWindowEnd] <;> omega
  simp [inWindow, hbounds]

/-- An index the block does not have is in neither bank (R50). -/
theorem not_inBank_of_ge {s : State} {a n : Nat} {base : Nat} {i : IrqNum} (hbase : base = Config.ipBase ∨ base = Config.ieBase)
    (ha : a = base + i.toNat) (hi : s.nIrq ≤ i.toNat) : ¬ s.inBank a n := by
  have hlt : i.toNat < 1024 := i.isLt
  have hmax : s.nIrq ≤ 1024 := s.cfg.nIrq_upper
  have hie : Config.ieBase = Config.ipBase + 1024 := rfl
  unfold State.inBank
  rcases hbase with rfl | rfl <;> omega

/-- How the port's answer goes with that of a memory primitive, for a request that decodes to `d` at `u`: both complete, both
answer the error response, or there is no register for either. -/
inductive PortAgrees {α : Type} (d : Decoded) (u : State) (complete : α → State) : MemAnswer α → Prop
  | done {op : Instr} (a : α) : d = .ok op → exec op u = .next (complete a) → PortAgrees d u complete (.done a)
  | busError {op : Instr} : d = .ok op → exec op u = .next (u.onlyAnswered true) → PortAgrees d u complete .busError
  | noRegister (addr : Word) : d = .error (noRegister addr) → PortAgrees d u complete (noAccess addr)

/-- The outcome of a transaction, from the answer of the memory primitive. -/
def portOutcome {α : Type} (u : State) (complete : α → State) (m : MemAnswer α) : Out :=
  match m with
  | .done a => .next (complete a)
  | .busError => .next (u.onlyAnswered true)
  | .notThisBlock => .refused .notThisBlock

theorem step_of_portAgrees {α : Type} {s : State} {r : Request} {rest : List Turn} {complete : α → State} {m : MemAnswer α}
    (hagenda : s.agenda = .request r :: rest) (h : PortAgrees (decode r) (s.withAgenda rest) complete m) :
    step s = portOutcome (s.withAgenda rest) complete m := by
  cases h with
  | done a hdecode hexec => rw [step_of_decode hagenda hdecode, hexec, portOutcome]
  | busError hdecode hexec => rw [step_of_decode hagenda hdecode, hexec, portOutcome]
  | noRegister addr hdecode =>
    rw [noRegister] at hdecode
    rw [noAccess]
    split_ifs at hdecode ⊢
    · rw [step_of_busError hagenda hdecode, portOutcome]
    · rw [step_of_notThisBlock hagenda hdecode, portOutcome]

/-- Beyond a bank both answer the error response, in either direction (R50). -/
theorem portAgrees_beyond_bank {α : Type} (we ie : Bool) {u : State} {complete : α → State} {addr : Word} {i : IrqNum} (v : Byte)
    (hwindow : inWindow addr = true) (hi : u.nIrq ≤ i.toNat) :
    PortAgrees (.ok (bankOp we ie i v)) u complete (noAccess addr) := by
  rw [noAccess_of_inWindow hwindow]
  exact .busError rfl (exec_bankOp_of_ge we ie v hi)

/-- Reads (R44). -/
theorem portAgrees_memRead {key : BitVec 35} (hwe : key.getLsbD 34 = false) (wdata : DWord) (u : State) :
    PortAgrees (decodeMmio key wdata) u (fun v => u.reply (.mmio v false))
      (u.memRead (lowWord key) (2 ^ (key.extractLsb' 32 2).toNat)) := by
  rw [we_eq_decide, decide_eq_false_iff_not] at hwe
  have haddr := toNat_lowWord key
  have hindex := toNat_lowIndex key
  have hip : Config.ipBase = 0x02800000 := rfl
  have hie : Config.ieBase = 0x02800400 := rfl
  have hmtime : Config.mtimeAddr = 0x0200BFF8 := rfl
  have hmtimecmp : Config.mtimecmpAddr = 0x02004000 := rfl
  have hrow := mmioRow_decodeMmio key wdata
  generalize decodeMmio key wdata = d at hrow ⊢
  rw [toNat_size]
  obtain ⟨hone, height⟩ := two_pow_size_iff (key.toNat / 2 ^ 32 % 4)
  cases hrow with
  | ipRead h =>
    have hentry : (lowWord key).toNat = Config.ipBase + (lowIndex key).toNat := by omega
    rw [hone.2 (by omega)]
    rcases Nat.lt_or_ge (lowIndex key).toNat u.nIrq with hi | hi
    · rw [u.memRead_ip hentry hi]
      exact .done _ rfl (if_pos ((u.hasIrq_iff _).2 hi))
    · rw [u.memRead_of_none (not_inBank_of_ge (.inl rfl) hentry hi) (by omega)]
      exact portAgrees_beyond_bank false false 0 (inWindow_of_bank (.inl rfl) hentry) hi
  | ieRead h =>
    have hentry : (lowWord key).toNat = Config.ieBase + (lowIndex key).toNat := by omega
    rw [hone.2 (by omega)]
    rcases Nat.lt_or_ge (lowIndex key).toNat u.nIrq with hi | hi
    · rw [u.memRead_ie hentry hi]
      exact .done _ rfl (if_pos ((u.hasIrq_iff _).2 hi))
    · rw [u.memRead_of_none (not_inBank_of_ge (.inr rfl) hentry hi) (by omega)]
      exact portAgrees_beyond_bank false true 0 (inWindow_of_bank (.inr rfl) hentry) hi
  | mtimeRead h =>
    rw [height.2 (by omega), u.memRead_mtime (by omega)]
    exact .done _ rfl rfl
  | mtimecmpRead h =>
    rw [height.2 (by omega), u.memRead_mtimecmp (by omega)]
    exact .done _ rfl rfl
  | ipWrite h | ieWrite h | mtimecmpWrite h | mtimeWrite h => omega
  | noRegister hbanks htimers =>
    have hmax : u.nIrq ≤ 1024 := u.cfg.nIrq_upper
    rw [u.memRead_of_none (by unfold State.inBank; omega) (by omega)]
    exact .noRegister _ rfl

/-- Writes (R45). -/
theorem portAgrees_memWrite {key : BitVec 35} (hwe : key.getLsbD 34 = true) (wdata : DWord) (u : State) :
    PortAgrees (decodeMmio key wdata) u (fun t => t.onlyAnswered false)
      (u.memWrite (lowWord key) (2 ^ (key.extractLsb' 32 2).toNat) wdata) := by
  rw [we_eq_decide, decide_eq_true_iff] at hwe
  have hkey : key.toNat < 2 ^ 35 := key.isLt
  have haddr := toNat_lowWord key
  have hindex := toNat_lowIndex key
  have hip : Config.ipBase = 0x02800000 := rfl
  have hie : Config.ieBase = 0x02800400 := rfl
  have hmtimecmp : Config.mtimecmpAddr = 0x02004000 := rfl
  have hrow := mmioRow_decodeMmio key wdata
  generalize decodeMmio key wdata = d at hrow ⊢
  rw [toNat_size]
  obtain ⟨hone, height⟩ := two_pow_size_iff (key.toNat / 2 ^ 32 % 4)
  cases hrow with
  | ipWrite h =>
    have hentry : (lowWord key).toNat = Config.ipBase + (lowIndex key).toNat := by omega
    rw [hone.2 (by omega)]
    rcases Nat.lt_or_ge (lowIndex key).toNat u.nIrq with hi | hi
    · rw [u.memWrite_ip hentry hi]
      exact .done _ rfl (exec_ipWrite_of_lt _ hi)
    · rw [u.memWrite_of_none (not_inBank_of_ge (.inl rfl) hentry hi) (by omega)]
      exact portAgrees_beyond_bank true false _ (inWindow_of_bank (.inl rfl) hentry) hi
  | ieWrite h =>
    have hentry : (lowWord key).toNat = Config.ieBase + (lowIndex key).toNat := by omega
    rw [hone.2 (by omega)]
    rcases Nat.lt_or_ge (lowIndex key).toNat u.nIrq with hi | hi
    · rw [u.memWrite_ie hentry hi]
      exact .done _ rfl (exec_ieWrite_of_lt _ hi)
    · rw [u.memWrite_of_none (not_inBank_of_ge (.inr rfl) hentry hi) (by omega)]
      exact portAgrees_beyond_bank true true _ (inWindow_of_bank (.inr rfl) hentry) hi
  | mtimecmpWrite h =>
    rw [height.2 (by omega), u.memWrite_mtimecmp (by omega)]
    exact .done _ rfl rfl
  | mtimeWrite h =>
    have hmax : u.nIrq ≤ 1024 := u.cfg.nIrq_upper
    have hwindow : inWindow (lowWord key) = true := by
      have hmtime : lowWord key = 0x0200BFF8#32 := BitVec.eq_of_toNat_eq (by rw [haddr, h]; rfl)
      rw [hmtime]
      decide
    rw [u.memWrite_of_none (by unfold State.inBank; omega) (by omega), noAccess_of_inWindow hwindow]
    exact .busError rfl (exec_mtimeWrite wdata u)
  | ipRead h | ieRead h | mtimeRead h | mtimecmpRead h => omega
  | noRegister hbanks htimers =>
    have hmax : u.nIrq ≤ 1024 := u.cfg.nIrq_upper
    rw [u.memWrite_of_none (by unfold State.inBank; omega) (by omega)]
    exact .noRegister _ rfl

/-- Settles O7: the direction decides which primitive the port goes by, row for row. -/
theorem mmioPortIsMemReadAndMemWrite : Obligations.MmioPortIsMemReadAndMemWrite := by
  intro s key wdata rest hagenda u n addr
  refine ⟨fun hwe => ?read, fun hwe => ?write⟩
  case read =>
    have hstep := step_of_portAgrees hagenda (portAgrees_memRead hwe wdata u)
    change step s = portOutcome u _ (u.memRead addr n) at hstep
    rw [hstep]
    cases u.memRead addr n <;> rfl
  case write =>
    have hstep := step_of_portAgrees hagenda (portAgrees_memWrite hwe wdata u)
    change step s = portOutcome u _ (u.memWrite addr n wdata) at hstep
    rw [hstep]
    cases u.memWrite addr n wdata <;> rfl

end Machine
end Sys2Proof

/-! Proofs about what every step keeps (spec/10_state.md): an operation has one `RegisterEffect`, so an invariant is checked
against those effects once, and the run's bookkeeping is looked at only for the calls in progress. -/
namespace Sys2Proof
namespace Machine

/-! ## The form of the state (R10 to R12, R20) -/

/-- Taking a turn off the agenda, and an operation off the innermost call, keeps the form. -/
theorem fetch_run_keeps_wf {s u : State} {op : Instr} (hfetch : fetch s = .run op u) (hwf : s.wf = true) : u.wf = true := by
  rcases fetch_run_cases hfetch with ⟨r, rest, -, -, rfl⟩ | ⟨todo, outer, rest, -, hcalls, rfl⟩
  · exact hwf
  · obtain ⟨hie, hip, hlines, hsvc, hok⟩ := s.wf_iff.1 hwf
    exact (State.wf_iff _).2 ⟨hie, hip, hlines, hsvc, callsAfter_ok _ op todo outer (hcalls ▸ hok)⟩

/-- An index below `N_IRQ` is itself in 10 bits (R7). -/
theorem toNat_ofNat_lt {n i : Nat} (hn : n ≤ 1024) (hi : i < n) : (BitVec.ofNat 10 i).toNat < n := by
  rwa [BitVec.toNat_ofNat, Nat.mod_eq_of_lt (by omega)]

theorem entryAddress_isDirect (entry : Word) : modeIsDirect (entryAddress entry) = true :=
  beq_iff_eq.2 BitVec.extractLsb'_append_eq_right

/-- What `setup_interrupts` leaves to issue are operations the block accepts (R189). -/
theorem setupRest_callOk {n : Nat} (hn : n ≤ 1024) (entry : Word) : callOk n (setupRest n entry) = true := by
  have hindex : ∀ i < n, (BitVec.ofNat 10 i).toNat < n := fun i => toNat_ofNat_lt hn
  simpa [setupRest, entryAddress_isDirect] using hindex

/-- What is takeable is a line of the block (R221, R222). -/
theorem State.lt_of_takeable {s : State} {i : IrqNum} (htake : s.takeable i = true) : i.toNat < s.nIrq := by
  obtain ⟨-, hcandidate, -⟩ := (s.takeable_iff i).1 htake
  obtain ⟨hi, -, -⟩ := (s.candidate_iff i).1 hcandidate
  exact hi

/-- Every operation keeps the form: a bank write keeps the length, what is pushed on `SVC` is a line of the block, and what a
sequence leaves to issue is accepted. -/
theorem RegisterEffect.keeps_wf {s u : State} {op : Instr} (h : RegisterEffect s op u) (hwf : s.wf = true) : u.wf = true := by
  obtain ⟨hie, hip, hlines, hsvc, hcalls⟩ := s.wf_iff.1 hwf
  rw [State.wf_iff, h.cfg_eq]
  cases h with
  | ipWrite | clearInterrupt => exact ⟨hie, (bankWrite_length _ _ _).trans hip, hlines, hsvc, hcalls⟩
  | irqLatch => exact ⟨hie, List.length_set.trans hip, hlines, hsvc, hcalls⟩
  | ieWrite | enableInterrupt | disableInterrupt => exact ⟨(bankWrite_length _ _ _).trans hie, hip, hlines, hsvc, hcalls⟩
  | lineHigh | lineLow => exact ⟨hie, hip, List.length_set.trans hlines, hsvc, hcalls⟩
  | excReport => exact ⟨hie, hip, hlines, hsvc, hcalls⟩
  | irqTake htake _ =>
    refine ⟨hie, hip, hlines, ?_, hcalls⟩
    rw [State.enterTrap_svc, List.all_cons, hsvc, Bool.and_true]
    exact decide_eq_true (State.lt_of_takeable htake)
  | trapReturn hstack =>
    rw [hstack, List.all_cons, Bool.and_eq_true] at hsvc
    obtain ⟨-, hbelow⟩ := hsvc
    exact ⟨hie, hip, hlines, hbelow, hcalls⟩
  | setTimecmp | dispatch => exact ⟨hie, hip, hlines, hsvc, hcalls⟩
  | setupInterrupts entry _ =>
    refine ⟨hie, hip, hlines, hsvc, ?_⟩
    rw [State.pushCall_calls, List.all_cons, State.nIrq_eq, setupRest_callOk s.cfg.nIrq_upper, Bool.true_and]
    exact hcalls
  | _ => exact ⟨hie, hip, hlines, hsvc, hcalls⟩

/-- Settles O51: fetching and the operation keep the form, and an answer is no part of it. -/
theorem stepKeepsTheStateWellFormed : Obligations.StepKeepsTheStateWellFormed := by
  intro s t hwf hstep
  rcases step_next_cases hstep with ⟨op, u, hfetch, hexec⟩ | ⟨u, hfetch, rfl⟩
  · obtain ⟨v, heffect, hsame⟩ := registerEffect_of_exec hexec
    have hv : v.wf = true := heffect.keeps_wf (fetch_run_keeps_wf hfetch hwf)
    rw [hsame]
    exact hv
  · obtain ⟨r, rest, a, -, -, rfl⟩ := fetch_busError_cases hfetch
    exact hwf

/-! ## Invariants of the registers -/

/-- A property of the registers that every effect keeps is kept by every step. -/
theorem step_preserves {P : State → Prop} (hreads : readsRegisters P)
    (heffect : ∀ (s u : State) (op : Instr), RegisterEffect s op u → P s → P u) {s t : State} (hs : P s)
    (hstep : step s = .next t) : P t := by
  rcases step_nextOp_cases hstep with ⟨op, a, c, -, hexec⟩ | ⟨-, a, rfl⟩
  · obtain ⟨u, hu, hsame⟩ := registerEffect_of_exec hexec
    have hstart : P { s with agenda := a, calls := c } := (hreads s s.resp s.xfer a c s.freeCount).mpr hs
    have hend : P u := heffect _ u op hu hstart
    rw [hsame]
    exact (hreads u t.resp t.xfer u.agenda u.calls t.freeCount).mpr hend
  · exact (hreads s _ .stay a s.calls (s.freeCount + 1)).mpr hs

/-- The same along a run. -/
theorem runSteps_preserves {P : State → Prop} (hreads : readsRegisters P)
    (heffect : ∀ (s u : State) (op : Instr), RegisterEffect s op u → P s → P u) {k : Nat} {s t : State} (hs : P s)
    (hrun : runSteps k s = .next t) : P t := by
  induction k generalizing s with
  | zero => cases hrun; exact hs
  | succ k ih =>
    obtain ⟨u, hstep, hrest⟩ := runSteps_succ_eq_next.1 hrun
    exact ih (step_preserves hreads heffect hs hstep) hrest

/-- An entry that may enter keeps the stack ordered (R222, R231). -/
theorem svcOrdered_push_irq {s : State} {i : IrqNum} (hordered : svcOrdered s.cfg s.svc = true)
    (hmay : s.mayEnter (.irq i) = true) : svcOrdered s.cfg (.irq i :: s.svc) = true := by
  rcases (s.mayEnter_iff _).1 hmay with hnil | ⟨hnest, top, rest, hsvc, hpreempts⟩
  · rw [hnil, svcOrdered_one]
  · rw [hsvc] at hordered ⊢
    simp [hnest, hpreempts, hordered]

/-- An exception may be entered over anything (R147). -/
theorem svcOrdered_push_exc {p : Config.Params} {svc : List SvcEntry} (hordered : svcOrdered p svc = true) :
    svcOrdered p (.exc :: svc) = true := by
  cases svc with
  | nil => rfl
  | cons top rest => simpa using hordered

/-- What is below the top of an ordered stack is ordered. -/
theorem svcOrdered_tail {p : Config.Params} {e : SvcEntry} {rest : List SvcEntry} (hordered : svcOrdered p (e :: rest) = true) :
    svcOrdered p rest = true := by
  cases rest with
  | nil => rfl
  | cons top below =>
    rw [svcOrdered_cons, Bool.and_eq_true] at hordered
    exact hordered.2

theorem RegisterEffect.keeps_serviceOrdered {s u : State} {op : Instr} (h : RegisterEffect s op u)
    (hordered : s.serviceOrdered = true) : u.serviceOrdered = true := by
  cases h with
  | excReport code _ => exact svcOrdered_push_exc hordered
  | irqTake htake _ =>
    obtain ⟨-, -, hmay⟩ := (s.takeable_iff _).1 htake
    exact svcOrdered_push_irq hordered hmay
  | trapReturn hstack =>
    rw [State.serviceOrdered, hstack] at hordered
    exact svcOrdered_tail hordered
  | _ => exact hordered

/-- Settles O52: only taking, reporting and returning touch the stack. -/
theorem stepKeepsServiceOrder : Obligations.StepKeepsServiceOrder :=
  fun _ _ => step_preserves (P := fun s => s.serviceOrdered = true) (fun _ _ _ _ _ _ => rfl)
    (fun _ _ _ h => h.keeps_serviceOrdered)

/-- Without nesting only an exception stands on something (R20). -/
theorem head_eq_exc_of_ordered {p : Config.Params} (hnest : p.nesting = false) {a b : SvcEntry} {rest : List SvcEntry}
    (hordered : svcOrdered p (a :: b :: rest) = true) : a = .exc := by
  simp only [svcOrdered_cons, hnest, Bool.false_and, Bool.or_false, Bool.and_eq_true, beq_iff_eq] at hordered
  exact hordered.1

theorem svcOrdered_without_nesting {p : Config.Params} (hnest : p.nesting = false) {svc : List SvcEntry}
    (hordered : svcOrdered p svc = true) :
    svc.countP SvcEntry.isIrq ≤ 1 ∧ svc.dropLast.all (fun e => e == .exc) = true := by
  induction svc with
  | nil => exact ⟨Nat.zero_le 1, rfl⟩
  | cons a rest ih =>
    obtain ⟨hcount, hall⟩ := ih (svcOrdered_tail hordered)
    cases rest with
    | nil => exact ⟨List.countP_le_length, rfl⟩
    | cons b below =>
      obtain rfl := head_eq_exc_of_ordered hnest hordered
      exact ⟨hcount, hall⟩

/-- Settles O53, by induction on the stack. -/
theorem atMostOneInterruptWithoutNesting : Obligations.AtMostOneInterruptWithoutNesting :=
  fun _ hordered hnest => svcOrdered_without_nesting hnest hordered

/-- The code of a taken interrupt's cause is its number (R222). -/
theorem causeCode_interruptCause (i : IrqNum) : (causeCode (interruptCause i)).toNat = i.toNat := by
  rw [interruptCause, causeCode_causeWord, BitVec.toNat_setWidth_of_le (by decide)]

theorem RegisterEffect.keeps_causeInRange {s u : State} {op : Instr} (h : RegisterEffect s op u)
    (hrange : s.causeInRange = true) : u.causeInRange = true := by
  cases h with
  | excReport code _ =>
    have hint : causeInt (exceptionCause code) = false := causeWord_bit false code
    simp [State.causeInRange, hint]
  | @irqTake i htake _ =>
    have hi := State.lt_of_takeable htake
    rw [State.nIrq_eq] at hi
    simp [State.causeInRange, causeCode_interruptCause, hi]
  | _ => exact hrange

/-- Settles O54: only taking and reporting write `CAUSE`. -/
theorem stepKeepsTheCauseInRange : Obligations.StepKeepsTheCauseInRange :=
  fun _ _ => step_preserves (P := fun s => s.causeInRange = true) (fun _ _ _ _ _ _ => rfl)
    (fun _ _ _ h => h.keeps_causeInRange)

theorem RegisterEffect.keeps_directMode {s u : State} {op : Instr} (h : RegisterEffect s op u)
    (hdirect : modeIsDirect s.tvec = true) : modeIsDirect u.tvec = true := by
  cases h with
  | tvecWrite hw => exact hw
  | _ => exact hdirect

/-- Settles O55: `TVEC_WRITE` installs direct mode only, and in direct mode `takeTrap` completes. -/
theorem directModeStays : Obligations.DirectModeStays := by
  refine ⟨fun s t => ?stays, fun s i hdirect htake => ?taken⟩
  case stays =>
    exact step_preserves (P := fun s => modeIsDirect s.tvec = true) (fun _ _ _ _ _ _ => rfl)
      (fun _ _ _ h => h.keeps_directMode)
  case taken =>
    rw [exec_irqTake_of_takeable (State.lt_of_takeable htake) htake]
    exact ⟨_, State.takeTrap_eq_next.2 ⟨hdirect, rfl⟩⟩

/-- Settles O50: reset builds each bank at its length, and both stacks are empty. -/
theorem resetMeetsTheInvariants : Obligations.ResetMeetsTheInvariants := by
  have hwf (p : Config.Params) (d : ResetDraw) : (State.resetWith p d).wf = true :=
    (State.wf_iff _).2 ⟨bankOf_length _ _, bankOf_length _ _, bankOf_length _ _, rfl, rfl⟩
  exact ⟨fun p d => ⟨hwf p d, rfl⟩, hwf _ _, rfl⟩

end Machine
end Sys2Proof

/-! Proofs about what an operation leaves unchanged (spec/10_state.md, spec/20_memory.md): which registers each effect writes,
and which bytes of the register map. -/
namespace Sys2Proof
namespace Machine

/-! ## The writers of each register -/

/-- Settles O56: each effect keeps every register but those of its own row. -/
theorem registersHaveTheirWriters : Obligations.RegistersHaveTheirWriters := by
  intro op s t hexec
  obtain ⟨u, heffect, hsame⟩ := registerEffect_of_exec hexec
  rw [hsame]
  cases heffect with
  | ieWrite v _ =>
    have hboot : s.boot.afterEnable (v.getLsbD 0) = s.boot ∨ v.getLsbD 0 = true := by
      cases hv : v.getLsbD 0 <;> simp
    simpa using hboot
  | _ => simp

/-! ## The bytes each effect stores to (R42, R48) -/

/-- A tick leaves every byte but the counter's eight (R123). -/
theorem State.byteAt_advanceMtime_of_ne (s : State) {a : Nat} (h : ¬ (Config.mtimeAddr ≤ a ∧ a < Config.mtimeAddr + 8)) :
    s.advanceMtime.byteAt a = s.byteAt a := by
  unfold State.byteAt
  rw [if_neg h, if_neg h]
  rfl

/-- A latch is a write of a 1 to the entry (R219). -/
theorem State.latchIp_eq_writeIp (s : State) (i : IrqNum) : s.latchIp i = s.writeIp i 1 := rfl

/-- The index of a source's entry is its number (R161). -/
theorem toNat_index_of_toIrq {src : Source} {n : Word} (hn : toIrq src = some n) :
    (BitVec.ofNat 10 n.toNat).toNat = n.toNat := by
  have hle : n.toNat ≤ 60 := toIrq_toNat_le hn
  exact Nat.mod_eq_of_lt (by omega)

/-- The three interrupt operations store to the byte of the source's entry (R180 to R182). -/
theorem storedBytes_of_toIrq {src : Source} {n : Word} (hn : toIrq src = some n) :
    storedBytes (.enableInterrupt src) = (Config.ieBase + n.toNat, 1) ∧
      storedBytes (.disableInterrupt src) = (Config.ieBase + n.toNat, 1) ∧
      storedBytes (.clearInterrupt src) = (Config.ipBase + n.toNat, 1) := by
  cases src <;> cases hn <;> exact ⟨rfl, rfl, rfl⟩

theorem storedBytes_ipWrite (i : IrqNum) (v : Byte) : storedBytes (.ipWrite i v) = (Config.ipBase + i.toNat, 1) :=
  congrArg (·, 1) (ipAddr_toNat i)

theorem storedBytes_irqLatch (i : IrqNum) : storedBytes (.irqLatch i) = (Config.ipBase + i.toNat, 1) :=
  congrArg (·, 1) (ipAddr_toNat i)

theorem storedBytes_ieWrite (i : IrqNum) (v : Byte) : storedBytes (.ieWrite i v) = (Config.ieBase + i.toNat, 1) :=
  congrArg (·, 1) (ieAddr_toNat i)

/-- The byte at address `a` is none of those an operation stores to. -/
def notStored (op : Instr) (a : Nat) : Prop :=
  ¬ ((storedBytes op).1 ≤ a ∧ a < (storedBytes op).1 + (storedBytes op).2)

theorem ne_of_notStored {op : Instr} {a b : Nat} (ha : notStored op a) (hbytes : storedBytes op = (b, 1)) : a ≠ b := by
  rw [notStored, hbytes] at ha
  omega

/-- Every effect keeps the bytes its operation does not store to. -/
theorem RegisterEffect.byteAt_eq {s u : State} {op : Instr} (h : RegisterEffect s op u) {a : Nat} (ha : notStored op a) :
    u.byteAt a = s.byteAt a := by
  cases h with
  | ipWrite v _ => exact s.byteAt_writeIp_of_ne _ v a (ne_of_notStored ha (storedBytes_ipWrite _ v))
  | irqLatch _ _ =>
    rw [State.latchIp_eq_writeIp]
    exact s.byteAt_writeIp_of_ne _ 1 a (ne_of_notStored ha (storedBytes_irqLatch _))
  | ieWrite v _ => exact s.byteAt_writeIe_of_ne _ v a (ne_of_notStored ha (storedBytes_ieWrite _ v))
  | mtimecmpWrite v => exact s.byteAt_writeMtimecmp_of_ne v a (not_and_or.1 ha |>.imp Nat.lt_of_not_le Nat.le_of_not_lt)
  | tick => exact s.byteAt_advanceMtime_of_ne ha
  | enableInterrupt hn =>
    obtain ⟨hbytes, -, -⟩ := storedBytes_of_toIrq hn
    rw [← toNat_index_of_toIrq hn] at hbytes
    exact s.byteAt_writeIe_of_ne _ 1 a (ne_of_notStored ha hbytes)
  | disableInterrupt hn =>
    obtain ⟨-, hbytes, -⟩ := storedBytes_of_toIrq hn
    rw [← toNat_index_of_toIrq hn] at hbytes
    exact s.byteAt_writeIe_of_ne _ 0 a (ne_of_notStored ha hbytes)
  | clearInterrupt hn =>
    obtain ⟨-, -, hbytes⟩ := storedBytes_of_toIrq hn
    rw [← toNat_index_of_toIrq hn] at hbytes
    exact s.byteAt_writeIp_of_ne _ 0 a (ne_of_notStored ha hbytes)
  | _ => rfl

theorem State.byteAt_of_sameRegisters {s t : State} (h : s.sameRegisters t) (a : Nat) : t.byteAt a = s.byteAt a := by
  rw [h]
  rfl

/-- Settles O57: the answer stores nothing, and each effect stores where its operation says. -/
theorem bytesOutsideTheStoredOnesAreUnchanged : Obligations.BytesOutsideTheStoredOnesAreUnchanged := by
  intro op s t hexec a ha
  obtain ⟨u, heffect, hsame⟩ := registerEffect_of_exec hexec
  exact (State.byteAt_of_sameRegisters hsame a).trans (heffect.byteAt_eq ha)

/-- The bytes of the compare register (R48). -/
theorem State.byteAt_mtimecmp (s : State) {k : Nat} (hk : k < 8) :
    s.byteAt (Config.mtimecmpAddr + k) = some (byteOf s.mtimecmp k) := by
  have hmtimecmp : Config.mtimecmpAddr = 0x02004000 := rfl
  have hmtime : Config.mtimeAddr = 0x0200BFF8 := rfl
  have hip : Config.ipBase = 0x02800000 := rfl
  have hie : Config.ieBase = 0x02800400 := rfl
  unfold State.byteAt
  rw [if_neg (by omega), if_neg (by omega), if_neg (by omega), if_pos (by omega), Nat.add_sub_cancel_left]

/-- Settles O16: the eight bytes by `byteAt_mtimecmp`, the others by the frame of the write, the line by the comparator. -/
theorem mtimecmpWriteReplacesTheRegister : Obligations.MtimecmpWriteReplacesTheRegister := by
  intro v s
  refine ⟨rfl, fun t ht => ?_⟩
  cases ht
  exact ⟨fun k hk => (s.writeMtimecmp v).byteAt_mtimecmp hk, fun a => s.byteAt_writeMtimecmp_of_ne v a,
    (s.writeMtimecmp v).irqIn_seven_iff, rfl⟩

end Machine
end Sys2Proof

/-! Proofs about the software operations (spec/44_software_sequences.md): the interrupt operations are one write of an entry, the
time operations one read of the counter, and what a sequence leaves to issue is run by `resume` turns. -/
namespace Sys2Proof
namespace Machine

/-! ## The interrupt operations (R180 to R182) -/

/-- The bank index of a source's number. -/
def numberIndex (n : Word) : IrqNum := BitVec.ofNat 10 n.toNat

theorem toNat_numberIndex {src : Source} {n : Word} (hn : toIrq src = some n) : (numberIndex n).toNat = n.toNat :=
  toNat_index_of_toIrq hn

theorem exec_enableInterrupt_of_toIrq {src : Source} {n : Word} (hn : toIrq src = some n) (s : State) :
    exec (.enableInterrupt src) s = .next ((s.writeIe (numberIndex n) 1).answerFree false) :=
  withIrq_eq_next.2 ⟨n, hn, s.writeTransaction_ie n.toNat _ (toIrq_lt_nIrq hn s)⟩

theorem exec_disableInterrupt_of_toIrq {src : Source} {n : Word} (hn : toIrq src = some n) (s : State) :
    exec (.disableInterrupt src) s = .next ((s.writeIe (numberIndex n) 0).answerFree false) :=
  withIrq_eq_next.2 ⟨n, hn, s.writeTransaction_ie n.toNat _ (toIrq_lt_nIrq hn s)⟩

theorem exec_clearInterrupt_of_toIrq {src : Source} {n : Word} (hn : toIrq src = some n) (s : State) :
    exec (.clearInterrupt src) s = .next ((s.writeIp (numberIndex n) 0).answerFree false) :=
  withIrq_eq_next.2 ⟨n, hn, s.writeTransaction_ip n.toNat _ (toIrq_lt_nIrq hn s)⟩

/-- Settles O41: a row's source has a number, which is the index of one entry; `Unknown` has none. -/
theorem interruptOperationsAreOneBankWrite : Obligations.InterruptOperationsAreOneBankWrite := by
  refine ⟨fun s hwf row hrow => ?known, fun s => ⟨rfl, rfl, rfl⟩⟩
  case known =>
    have hn : toIrq row.2.2.1 = some row.2.2.2 := toIrq_of_mem_sourceRows row hrow
    obtain ⟨hie, hip, -, -, -⟩ := s.wf_iff.1 hwf
    have hindex := toNat_numberIndex hn
    have hi : (numberIndex row.2.2.2).toNat < s.nIrq := hindex ▸ toIrq_lt_nIrq hn s
    have hself (v : Byte) := s.byteAt_writeIe_self v hi (hie ▸ hi)
    have hother (v : Byte) := s.byteAt_writeIe_of_ne (numberIndex row.2.2.2) v
    have hselfIp := s.byteAt_writeIp_self 0 hi (hip ▸ hi)
    have hotherIp := s.byteAt_writeIp_of_ne (numberIndex row.2.2.2) 0
    simp only [hindex] at hself hother hselfIp hotherIp
    refine ⟨⟨_, exec_enableInterrupt_of_toIrq hn s, ?_, hself 1, hother 1⟩,
      ⟨_, exec_disableInterrupt_of_toIrq hn s, ?_, hself 0, hother 0⟩,
      ⟨_, exec_clearInterrupt_of_toIrq hn s, ?_, hselfIp, hotherIp⟩⟩
    · rw [State.writeIe, hindex]; rfl
    · rw [State.writeIe, hindex]; rfl
    · rw [State.writeIp, hindex]; rfl

/-! ## The time operations (R183 to R188) -/

theorem State.withTimeBase_of_some {s : State} {freq : Nat} (h : s.cfg.fTick = some freq) (k : Nat → Out) :
    s.withTimeBase k = k freq := by
  rw [State.withTimeBase, h]

/-- A reading by a scale other than zero is the quotient. -/
theorem State.readScaled_of_ne_zero (s : State) {scale : Nat} (h : scale ≠ 0) :
    s.readScaled scale = .next (s.reply (.time (divTicks s.mtime scale))) := by
  rw [State.readScaled, State.readThen_mtime, if_neg h]

theorem State.readScaled_zero (s : State) : s.readScaled 0 = .fault .divideByZero := by
  rw [State.readScaled, State.readThen_mtime, if_pos rfl]

/-- Settles O43: the time base decides whether there is a reading, and the scale whether it divides by zero. -/
theorem timeReadingsScaleTheCounter : Obligations.TimeReadingsScaleTheCounter := by
  refine ⟨fun s f hf => ⟨?ticks, fun hms => ?ms, fun hms => ?msZero, fun hus => ?us, fun hus => ?usZero⟩,
    fun s hnone => ⟨?_, ?_, ?_⟩⟩
  case ticks => exact s.withTimeBase_of_some hf _
  case ms => exact (s.withTimeBase_of_some hf _).trans (s.readScaled_of_ne_zero (Nat.div_pos hms (by decide)).ne')
  case us => exact (s.withTimeBase_of_some hf _).trans (s.readScaled_of_ne_zero (Nat.div_pos hus (by decide)).ne')
  case msZero =>
    refine (s.withTimeBase_of_some hf _).trans ?_
    rw [scaleMs, Nat.div_eq_of_lt hms, s.readScaled_zero]
  case usZero =>
    refine (s.withTimeBase_of_some hf _).trans ?_
    rw [scaleUs, Nat.div_eq_of_lt hus, s.readScaled_zero]
  all_goals exact s.withTimeBase_of_none hnone _

theorem exec_setTimecmp_of_some {s : State} {freq : Nat} (h : s.cfg.fTick = some freq) (delay : DWord) :
    exec (.setTimecmp delay) s
      = .next ((s.reply (.mmio s.mtime false)).pushCall [.mtimecmpWrite (s.mtime + delay)]) :=
  s.withTimeBase_of_some h _

/-- The second transaction of `set_timecmp` (R188). -/
theorem step_resume_mtimecmpWrite {s : State} {v : DWord} {outer : List (List Instr)} {rest : List Turn}
    (hcalls : s.calls = [.mtimecmpWrite v] :: outer) (hagenda : s.agenda = .resume :: rest) :
    step s = .next (State.onlyAnswered { s with calls := outer, agenda := rest, mtimecmp := v } false) :=
  step_of_resume hagenda hcalls

theorem runSteps_two {s t u : State} (hfirst : step s = .next t) (hsecond : step t = .next u) : runSteps 2 s = .next u :=
  runSteps_succ_eq_next.2 ⟨t, hfirst, runSteps_succ_eq_next.2 ⟨u, hsecond, rfl⟩⟩

/-- Settles O44: the reading is kept in the call that the second step resumes. -/
theorem setTimecmpWritesNowPlusDelay : Obligations.SetTimecmpWritesNowPlusDelay := by
  refine ⟨fun s f delay hf => exec_setTimecmp_of_some hf delay, fun s v outer rest => step_resume_mtimecmpWrite,
    fun s f delay rest hf hagenda => ?uninterrupted⟩
  case uninterrupted =>
    have hfirst := (step_of_decode hagenda rfl).trans (exec_setTimecmp_of_some (s := s.withAgenda (.resume :: rest)) hf delay)
    exact ⟨_, runSteps_two hfirst (step_resume_mtimecmpWrite rfl rfl), rfl, rfl, rfl, rfl, rfl, rfl, rfl, rfl, rfl, rfl⟩

/-! ## Dispatching (R190) -/

/-- The handler of a cause word (R165). -/
theorem handlerOf_eq (p : Path × Source) : handlerOf p = if p.1 = .handler then .ofSource p.2 else .exceptionHandler := by
  obtain ⟨path, src⟩ := p
  cases path <;> rfl

/-- Settles O47: `dispatch` calls what `handlerOf` selects, and what it leaves to issue is the pop. -/
theorem dispatchCallsTheSelectedHandler : Obligations.DispatchCallsTheSelectedHandler := by
  refine ⟨fun s => ?called, fun s e below outer rest hcalls hagenda hsvc => ?handlerReturns⟩
  case called =>
    rw [← handlerOf_eq]
    rfl
  case handlerReturns =>
    rw [step_of_resume hagenda hcalls]
    exact exec_trapReturn_of_svc_cons hsvc

/-! ## No bus error (R49) -/

/-- The first operation of a sequence is on a register the block has, or reads none. -/
theorem busFault_of_pseudo {op : Instr} {s t : State} (hpseudo : op.format = .pseudo) (h : exec op s = .next t) :
    t.busFault = false := by
  cases op with
  | enableInterrupt src =>
    obtain ⟨n, hn, -⟩ := withIrq_eq_next.1 h
    cases (exec_enableInterrupt_of_toIrq hn s).symm.trans h
    rfl
  | disableInterrupt src =>
    obtain ⟨n, hn, -⟩ := withIrq_eq_next.1 h
    cases (exec_disableInterrupt_of_toIrq hn s).symm.trans h
    rfl
  | clearInterrupt src =>
    obtain ⟨n, hn, -⟩ := withIrq_eq_next.1 h
    cases (exec_clearInterrupt_of_toIrq hn s).symm.trans h
    rfl
  | getTicks | setTimecmp =>
    obtain ⟨freq, -, hread⟩ := State.withTimeBase_eq_next.1 h
    cases hread
    rfl
  | getTimeMs | getTimeUs =>
    obtain ⟨freq, -, hread⟩ := State.withTimeBase_eq_next.1 h
    rw [State.readScaled, State.readThen_mtime] at hread
    split at hread <;> cases hread
    rfl
  | setupInterrupts entry =>
    simp only [exec, execSetupInterrupts] at h
    split at h <;> cases h
    rfl
  | tryNew | dispatch => cases h; rfl
  | _ => cases hpseudo

/-- A later operation of a sequence writes an entry the block has, or is no access to a bank. -/
theorem busFault_of_sequenceOp {op : Instr} {s t : State} (h : exec op s = .next t) (hop : sequenceOp s.nIrq op = true) :
    t.busFault = false := by
  cases op with
  | ieWrite i v =>
    cases (exec_ieWrite_of_lt v (of_decide_eq_true hop)).symm.trans h
    rfl
  | ipWrite i v =>
    cases (exec_ipWrite_of_lt v (of_decide_eq_true hop)).symm.trans h
    rfl
  | tvecWrite w =>
    cases (if_pos hop : exec (.tvecWrite w) s = _).symm.trans h
    rfl
  | trapReturn =>
    cases hsvc : s.svc with
    | nil => cases (exec_trapReturn_of_svc_nil hsvc).symm.trans h
    | cons e rest =>
      cases (exec_trapReturn_of_svc_cons hsvc).symm.trans h
      rfl
  | mtimecmpWrite | gieSet => cases h; rfl
  | _ => cases hop

/-- Settles O48: the first operations by `busFault_of_pseudo`; a resumed one is a `sequenceOp` in a state of the form a run
keeps. -/
theorem softwareNeverMeetsABusError : Obligations.SoftwareNeverMeetsABusError := by
  refine ⟨fun op s t => busFault_of_pseudo, fun s t rest hwf hagenda hstep => ?resumed⟩
  case resumed =>
    obtain ⟨-, -, -, -, hok⟩ := s.wf_iff.1 hwf
    rcases step_next_cases hstep with ⟨op, u, hfetch, -⟩ | ⟨u, hfetch, -⟩
    · rcases fetch_run_cases hfetch with ⟨r, rest', hrequest, -, -⟩ | ⟨todo, outer, rest', -, hcalls, -⟩
      · cases hagenda.symm.trans hrequest
      · rw [hcalls, List.all_cons, callOk_cons, Bool.and_eq_true, Bool.and_eq_true] at hok
        obtain ⟨⟨hop, -⟩, -⟩ := hok
        rw [step_of_resume hagenda hcalls] at hstep
        exact busFault_of_sequenceOp hstep hop
    · obtain ⟨r, rest', a, hrequest, -, -⟩ := fetch_busError_cases hfetch
      cases hagenda.symm.trans hrequest

/-! ## The phase of the initialisation (R253, U8; log 21) -/

theorem exec_setupInterrupts_of_not_fresh {s : State} (h : s.boot ≠ .fresh) (entry : Word) :
    exec (.setupInterrupts entry) s = .refused .setupNotFirst :=
  if_neg h

theorem exec_setupInterrupts_of_fresh {s : State} (h : s.boot = .fresh) (entry : Word) :
    exec (.setupInterrupts entry) s
      = .next (((s.writeGie false).reply (.sideband 0)).startSetup.pushCall (setupRest s.nIrq entry)) :=
  if_pos h

theorem State.writeIe_not_fresh {s : State} (hs : s.boot ≠ .fresh) (i : IrqNum) (v : Byte) : (s.writeIe i v).boot ≠ .fresh :=
  fun hfresh => hs ((Boot.afterEnable_eq_fresh _ _).1 hfresh).1

/-- No operation makes the phase fresh again. -/
theorem RegisterEffect.keeps_not_fresh {s u : State} {op : Instr} (h : RegisterEffect s op u) (hs : s.boot ≠ .fresh) :
    u.boot ≠ .fresh := by
  cases h with
  | ieWrite | enableInterrupt | disableInterrupt => exact State.writeIe_not_fresh hs _ _
  | setupInterrupts => exact nofun
  | _ => exact hs

/-- The three operations of R253 that end the fresh phase. -/
def endsFresh (s : State) (op : Instr) : Prop :=
  (∃ entry, op = .setupInterrupts entry) ∨ (∃ i v, op = .ieWrite i v ∧ i.toNat < s.nIrq ∧ v.getLsbD 0 = true) ∨
    (∃ src, op = .enableInterrupt src)

theorem not_fresh_of_endsFresh {op : Instr} {s t : State} (hop : endsFresh s op) (h : exec op s = .next t) :
    t.boot ≠ .fresh := by
  have henabled (b : Boot) : b.afterEnable true ≠ .fresh := fun hfresh => nomatch ((Boot.afterEnable_eq_fresh b true).1 hfresh).2
  rcases hop with ⟨entry, rfl⟩ | ⟨i, v, rfl, hi, hv⟩ | ⟨src, rfl⟩
  · by_cases hfresh : s.boot = .fresh
    · cases (exec_setupInterrupts_of_fresh hfresh entry).symm.trans h
      exact nofun
    · cases (exec_setupInterrupts_of_not_fresh hfresh entry).symm.trans h
  · cases (exec_ieWrite_of_lt v hi).symm.trans h
    rw [State.answerFree_boot, State.writeIe_boot, hv]
    exact henabled _
  · obtain ⟨n, hn, -⟩ := withIrq_eq_next.1 h
    cases (exec_enableInterrupt_of_toIrq hn s).symm.trans h
    exact henabled _

theorem endsFresh_of_not_fresh {op : Instr} {s t : State} (h : exec op s = .next t) (hs : s.boot = .fresh)
    (ht : t.boot ≠ .fresh) : endsFresh s op := by
  obtain ⟨u, heffect, hsame⟩ := registerEffect_of_exec h
  have hu : u.boot ≠ .fresh := fun hfresh => ht ((congrArg State.boot hsame).trans hfresh)
  cases heffect with
  | setupInterrupts entry _ => exact .inl ⟨entry, rfl⟩
  | @ieWrite i v hi =>
    refine .inr (.inl ⟨i, v, rfl, hi, ?_⟩)
    by_contra hv
    exact hu ((Boot.afterEnable_eq_fresh _ _).2 ⟨hs, Bool.eq_false_iff.2 hv⟩)
  | @enableInterrupt src n _ => exact .inr (.inr ⟨src, rfl⟩)
  | _ => exact absurd hs hu

/-- Settles O46: what ends the fresh phase, and that no run brings it back. -/
theorem setupRunsAtMostOnceAndBeforeEnables : Obligations.SetupRunsAtMostOnceAndBeforeEnables := by
  refine ⟨fun s t op hexec hop k u entry hrun => ?refused, fun s t op hexec => endsFresh_of_not_fresh hexec⟩
  case refused =>
    have hu : u.boot ≠ .fresh :=
      runSteps_preserves (P := fun s => s.boot ≠ .fresh) (fun _ _ _ _ _ _ => rfl) (fun _ _ _ h => h.keeps_not_fresh)
        (not_fresh_of_endsFresh hop hexec) hrun
    exact exec_setupInterrupts_of_not_fresh hu entry

end Machine
end Sys2Proof

/-! Proofs about `setup_interrupts` (spec/44_software_sequences.md R189): uninterrupted, its remainder is run operation by
operation, each one an update of the registers. -/
namespace Sys2Proof
namespace Machine

/-! ## A call in progress, resumed with nothing between (log 14) -/

/-- The update of the registers that an operation of the remainder makes. -/
def State.setupUpdate (s : State) : Instr → State
  | .tvecWrite w => s.writeTvec w
  | .ieWrite i v => s.writeIe i v
  | .ipWrite i v => s.writeIp i v
  | .gieSet => s.writeGie true
  | _ => s

/-- The operations of the remainder, for banks of `n` entries. -/
def setupOp (n : Nat) (op : Instr) : Prop :=
  (∃ w, op = .tvecWrite w ∧ modeIsDirect w = true) ∨ (∃ i v, op = .ieWrite i v ∧ i.toNat < n) ∨
    (∃ i v, op = .ipWrite i v ∧ i.toNat < n) ∨ op = .gieSet

/-- The registers of `t` are those of `s`, whatever the answer and the bookkeeping of the run are. -/
def State.sameInRun (s t : State) : Prop :=
  t = { s with resp := t.resp, xfer := t.xfer, agenda := t.agenda, calls := t.calls, freeCount := t.freeCount }

theorem State.sameInRun.trans {s t u : State} (hst : s.sameInRun t) (htu : t.sameInRun u) : s.sameInRun u := by
  rw [State.sameInRun] at hst htu ⊢
  rw [htu, hst]

/-- An update does not look at the bookkeeping. -/
theorem State.sameInRun.setupUpdate {s t : State} (h : s.sameInRun t) (op : Instr) :
    (s.setupUpdate op).sameInRun (t.setupUpdate op) := by
  rw [State.sameInRun] at h
  rw [h]
  cases op <;> rfl

theorem State.sameInRun.foldl_setupUpdate {s t : State} (h : s.sameInRun t) (ops : List Instr) :
    (ops.foldl State.setupUpdate s).sameInRun (ops.foldl State.setupUpdate t) := by
  induction ops generalizing s t with
  | nil => exact h
  | cons op ops ih => exact ih (h.setupUpdate op)

theorem exec_setupOp {s : State} {n : Nat} {op : Instr} (hn : s.nIrq = n) (hop : setupOp n op) :
    ∃ t, exec op s = .next t ∧ (s.setupUpdate op).sameInRun t ∧ t.nIrq = n ∧ t.calls = s.calls ∧ t.agenda = s.agenda := by
  subst hn
  rcases hop with ⟨w, rfl, hw⟩ | ⟨i, v, rfl, hi⟩ | ⟨i, v, rfl, hi⟩ | rfl
  · exact ⟨_, if_pos hw, rfl, rfl, rfl, rfl⟩
  · exact ⟨_, exec_ieWrite_of_lt v hi, rfl, rfl, rfl, rfl⟩
  · exact ⟨_, exec_ipWrite_of_lt v hi, rfl, rfl, rfl, rfl⟩
  · exact ⟨_, rfl, rfl, rfl, rfl, rfl⟩

/-- The state of a run with the turns and the calls still to come. -/
def State.inRun (s : State) (turns : List Turn) (calls : List (List Instr)) : State :=
  { s with agenda := turns, calls := calls }

theorem State.sameInRun_inRun (s : State) (turns : List Turn) (calls : List (List Instr)) : s.sameInRun (s.inRun turns calls) :=
  rfl

/-- Resumed once for each operation of `done`, a call of `done ++ left` has made the updates of `done` and has `left` left. -/
theorem runSteps_resume {n : Nat} (left : List Instr) (outer : List (List Instr)) (rest : List Turn) {done : List Instr}
    (hops : ∀ op ∈ done, setupOp n op) {s : State} (hn : s.nIrq = n) (hcalls : s.calls = callsAfter (done ++ left) outer)
    (hagenda : s.agenda = List.replicate done.length Turn.resume ++ rest) :
    ∃ t, runSteps done.length s = .next t ∧ (done.foldl State.setupUpdate s).sameInRun t ∧
      t.calls = callsAfter left outer ∧ t.agenda = rest := by
  induction done generalizing s with
  | nil => exact ⟨s, rfl, rfl, hcalls, hagenda⟩
  | cons op done ih =>
    obtain ⟨hop, hdone⟩ := List.forall_mem_cons.1 hops
    have hstart := s.sameInRun_inRun (List.replicate done.length Turn.resume ++ rest) (callsAfter (done ++ left) outer)
    obtain ⟨u, hexec, hupdate, hnu, hcallsu, hagendau⟩ := exec_setupOp
      (s := s.inRun (List.replicate done.length Turn.resume ++ rest) (callsAfter (done ++ left) outer)) hn hop
    obtain ⟨t, hrun, hsame, hcallst, hagendat⟩ := ih hdone hnu hcallsu hagendau
    have hstep : step s = .next u := (step_of_resume hagenda hcalls).trans hexec
    have hupdates := ((hstart.setupUpdate op).trans hupdate).foldl_setupUpdate done
    exact ⟨t, runSteps_succ_eq_next.2 ⟨u, hstep, hrun⟩, hupdates.trans hsame, hcallst, hagendat⟩

/-! ## What the remainder does -/

/-- The bank writes of the remainder, a clear of each entry. -/
def clearOps (write : IrqNum → Byte → Instr) (k : Nat) : List Instr :=
  (List.range k).map (fun i => write (BitVec.ofNat 10 i) 0)

theorem clearOps_succ (write : IrqNum → Byte → Instr) (k : Nat) :
    clearOps write (k + 1) = clearOps write k ++ [write (BitVec.ofNat 10 k) 0] := by
  simp [clearOps, List.range_succ]

/-- The remainder without its last operation. -/
def setupInit (n : Nat) (entry : Word) : List Instr :=
  .tvecWrite (entryAddress entry) :: (clearOps .ieWrite n ++ clearOps .ipWrite n)

theorem setupRest_eq (n : Nat) (entry : Word) : setupRest n entry = setupInit n entry ++ [Instr.gieSet] := rfl

theorem setupInit_length (n : Nat) (entry : Word) : (setupInit n entry).length = 2 * n + 1 := by
  simp [setupInit, clearOps]
  omega

theorem setupRest_length (n : Nat) (entry : Word) : (setupRest n entry).length = 2 * n + 2 := by
  rw [setupRest_eq, List.length_append, setupInit_length]
  rfl

theorem setupRest_ops {n : Nat} (hn : n ≤ 1024) (entry : Word) : ∀ op ∈ setupRest n entry, setupOp n op := by
  intro op hop
  simp only [setupRest, List.mem_cons, List.mem_append, List.mem_map, List.mem_range, List.not_mem_nil, or_false] at hop
  rcases hop with rfl | (⟨i, hi, rfl⟩ | ⟨i, hi, rfl⟩) | rfl
  · exact .inl ⟨_, rfl, entryAddress_isDirect entry⟩
  · exact .inr (.inl ⟨_, _, rfl, toNat_ofNat_lt hn hi⟩)
  · exact .inr (.inr (.inl ⟨_, _, rfl, toNat_ofNat_lt hn hi⟩))
  · exact .inr (.inr (.inr rfl))

/-- Clearing entry `k` after the first `k` clears one more. -/
theorem bankWrite_clears_next {b : List Bool} {k : Nat} (hk : k < b.length) (hmax : b.length ≤ 1024) :
    bankWrite (List.replicate k false ++ b.drop k) (BitVec.ofNat 10 k).toNat 0
      = List.replicate (k + 1) false ++ b.drop (k + 1) := by
  have hindex : (BitVec.ofNat 10 k).toNat = k := Nat.mod_eq_of_lt (by omega)
  have hzero : (0 : Byte).getLsbD 0 = false := rfl
  rw [hindex, bankWrite, hzero, List.set_append_right _ _ (by simp), List.length_replicate, Nat.sub_self,
    List.drop_eq_getElem_cons hk, List.set_cons_zero, List.replicate_succ', List.append_assoc, List.singleton_append]

theorem foldl_clear_ie (s : State) {k : Nat} (hk : k ≤ s.ie.length) (hmax : s.ie.length ≤ 1024) :
    (clearOps .ieWrite k).foldl State.setupUpdate s = { s with ie := List.replicate k false ++ s.ie.drop k } := by
  induction k with
  | zero => rfl
  | succ k ih =>
    rw [clearOps_succ, List.foldl_append, ih (by omega), ← bankWrite_clears_next hk hmax]
    rfl

theorem foldl_clear_ip (s : State) {k : Nat} (hk : k ≤ s.ip.length) (hmax : s.ip.length ≤ 1024) :
    (clearOps .ipWrite k).foldl State.setupUpdate s = { s with ip := List.replicate k false ++ s.ip.drop k } := by
  induction k with
  | zero => rfl
  | succ k ih =>
    rw [clearOps_succ, List.foldl_append, ih (by omega), ← bankWrite_clears_next hk hmax]
    rfl

/-- A bank cleared to its end is all zero. -/
theorem replicate_append_drop_of_length {b : List Bool} {n : Nat} (hlen : b.length = n) :
    List.replicate n false ++ b.drop n = List.replicate n false := by
  rw [List.drop_of_length_le (le_of_eq hlen), List.append_nil]

theorem foldl_clear_all_ie {s : State} {n : Nat} (hn : n ≤ 1024) (hlen : s.ie.length = n) :
    (clearOps .ieWrite n).foldl State.setupUpdate s = { s with ie := List.replicate n false } := by
  rw [foldl_clear_ie s (le_of_eq hlen.symm) (hlen.symm ▸ hn), replicate_append_drop_of_length hlen]

theorem foldl_clear_all_ip {s : State} {n : Nat} (hn : n ≤ 1024) (hlen : s.ip.length = n) :
    (clearOps .ipWrite n).foldl State.setupUpdate s = { s with ip := List.replicate n false } := by
  rw [foldl_clear_ip s (le_of_eq hlen.symm) (hlen.symm ▸ hn), replicate_append_drop_of_length hlen]

/-- The remainder puts the entry in, clears both banks and sets `GIE` (R189). -/
theorem foldl_setupRest {s : State} {n : Nat} (hn : n ≤ 1024) (hie : s.ie.length = n) (hip : s.ip.length = n) (entry : Word) :
    (setupRest n entry).foldl State.setupUpdate s
      = { s with tvec := entryAddress entry, ie := List.replicate n false, ip := List.replicate n false, gie := true } := by
  simp only [setupRest_eq, setupInit, List.foldl_append, List.foldl_cons, List.foldl_nil]
  rw [foldl_clear_all_ie hn, foldl_clear_all_ip hn]
  · rfl
  · exact hip
  · exact hie

/-- No operation before the last sets `GIE`. -/
theorem foldl_setupUpdate_gie (s : State) {ops : List Instr} (hops : ∀ op ∈ ops, op ≠ .gieSet) :
    (ops.foldl State.setupUpdate s).gie = s.gie := by
  induction ops generalizing s with
  | nil => rfl
  | cons op ops ih =>
    obtain ⟨hop, hrest⟩ := List.forall_mem_cons.1 hops
    rw [List.foldl_cons, ih _ hrest]
    cases op with
    | gieSet => exact absurd rfl hop
    | _ => rfl

theorem ne_gieSet_of_mem_setupInit {n : Nat} {entry : Word} {op : Instr} (hop : op ∈ setupInit n entry) : op ≠ .gieSet := by
  rintro rfl
  simp [setupInit, clearOps] at hop

/-! ## Carried to its end (R189, R254) -/

/-- The state after the first step of `setup_interrupts`, with `turns` to come. -/
def State.afterSetupCall (s : State) (entry : Word) (turns : List Turn) : State :=
  (((s.withAgenda turns).writeGie false).reply (.sideband 0)).startSetup.pushCall (setupRest s.nIrq entry)

theorem State.afterSetupCall_nIrq (s : State) (entry : Word) (turns : List Turn) :
    (s.afterSetupCall entry turns).nIrq = s.nIrq := by
  simp [State.afterSetupCall]

theorem step_setupInterrupts {s : State} {entry : Word} {turns : List Turn} (hfresh : s.boot = .fresh)
    (hagenda : s.agenda = .request (.call (.setupInterrupts entry)) :: turns) :
    step s = .next (s.afterSetupCall entry turns) :=
  (step_of_decode hagenda rfl).trans (exec_setupInterrupts_of_fresh (s := s.withAgenda turns) hfresh entry)

/-- The state after the call of `setup_interrupts` and the operations `done` of its remainder, with `left` left: `GIE` is clear
and the updates of `done` are made. -/
theorem runSteps_setup {s : State} {entry : Word} {rest : List Turn} {done left : List Instr} (hfresh : s.boot = .fresh)
    (hsplit : setupRest s.nIrq entry = done ++ left)
    (hagenda : s.agenda = .request (.call (.setupInterrupts entry)) :: (List.replicate (2 * s.nIrq + 2) Turn.resume ++ rest)) :
    ∃ t, runSteps (done.length + 1) s = .next t ∧
      (done.foldl State.setupUpdate { s with gie := false, boot := .setUp }).sameInRun t ∧
      t.calls = callsAfter left s.calls ∧ t.agenda = List.replicate left.length Turn.resume ++ rest := by
  have hturns : List.replicate (2 * s.nIrq + 2) Turn.resume ++ rest
      = List.replicate done.length Turn.resume ++ (List.replicate left.length Turn.resume ++ rest) := by
    rw [← setupRest_length s.nIrq entry, hsplit, List.length_append, ← List.append_assoc, List.replicate_append_replicate]
  have hops : ∀ op ∈ done, setupOp s.nIrq op := fun op hop =>
    setupRest_ops s.cfg.nIrq_upper entry op (hsplit ▸ List.mem_append_left left hop)
  have hfirst := step_setupInterrupts hfresh hagenda
  have hcalls : (s.afterSetupCall entry (List.replicate (2 * s.nIrq + 2) Turn.resume ++ rest)).calls
      = callsAfter (done ++ left) s.calls := by
    rw [← hsplit]
    rfl
  have hstart : State.sameInRun { s with gie := false, boot := .setUp }
      (s.afterSetupCall entry (List.replicate (2 * s.nIrq + 2) Turn.resume ++ rest)) := rfl
  obtain ⟨t, hrun, hsame, hleft, hrest⟩ := runSteps_resume left s.calls _ hops (s.afterSetupCall_nIrq entry _) hcalls hturns
  exact ⟨t, runSteps_succ_eq_next.2 ⟨_, hfirst, hrun⟩, (hstart.foldl_setupUpdate done).trans hsame, hleft, hrest⟩

/-- Before the last operation no interrupt can be taken (R254). -/
theorem takeable_during_setup {s t : State} {done : List Instr} {n : Nat} {entry : Word} (hgie : s.gie = false)
    (hdone : ∀ op ∈ done, op ∈ setupInit n entry) (hsame : (done.foldl State.setupUpdate s).sameInRun t) (i : IrqNum) :
    t.takeable i = false := by
  have ht : t.gie = (done.foldl State.setupUpdate s).gie := (congrArg State.gie hsame).trans rfl
  refine State.takeable_of_gie_false i ?_
  rw [ht, foldl_setupUpdate_gie s (fun op hop => ne_gieSet_of_mem_setupInit (hdone op hop)), hgie]

/-- An entry address that is a multiple of 4 is installed as it is (R189). -/
theorem entryAddress_of_direct {w : Word} (hmode : w.extractLsb' 0 2 = 0#2) : entryAddress w = w := by
  rw [entryAddress, ← hmode]
  exact BitVec.extractLsb'_append_extractLsb'

theorem setupEnded_of_calls {s t : State} (hcalls : t.calls = s.calls) (hboot : t.boot = .setUp)
    (hnone : s.calls.any midSetup = false) : t.setupEnded = true := by
  rw [State.setupEnded, hcalls, hboot, hnone]
  rfl

/-- Settles O45: the whole remainder by `foldl_setupRest`, and each part of it without its last operation by
`takeable_during_setup`. -/
theorem setupInterruptsLeavesTheBanksClear : Obligations.SetupInterruptsLeavesTheBanksClear := by
  refine ⟨fun s entry hfresh => ?firstStep, fun s entry h => exec_setupInterrupts_of_not_fresh h entry,
    fun s entry rest hwf hfresh hmode hagenda => ⟨?toTheEnd, fun k hk1 hk => ?onTheWay⟩⟩
  case firstStep =>
    exact ⟨_, exec_setupInterrupts_of_fresh hfresh entry, rfl, rfl, _, rfl, setupRest_length s.nIrq entry⟩
  case toTheEnd =>
    obtain ⟨hie, hip, -, -, -⟩ := s.wf_iff.1 hwf
    obtain ⟨t, hrun, hsame, hcalls, hrest⟩ := runSteps_setup hfresh (List.append_nil _).symm hagenda
    have hfold := foldl_setupRest (s := { s with gie := false, boot := .setUp }) (n := s.nIrq) s.cfg.nIrq_upper hie hip entry
    rw [hfold, entryAddress_of_direct hmode, State.sameInRun] at hsame
    rw [setupRest_length] at hrun
    have hboot : t.boot = .setUp := by rw [hsame]
    refine ⟨t, hrun, ?_, ?_, ?_, ?_, ?_, ?_, ?_, ?_, ?_, hcalls, hrest, ?_, hboot, setupEnded_of_calls hcalls hboot⟩
    all_goals rw [hsame]
  case onTheWay =>
    obtain ⟨j, rfl⟩ : ∃ j, k = j + 1 := ⟨k - 1, by omega⟩
    have hj : j ≤ (setupInit s.nIrq entry).length := by rw [setupInit_length]; omega
    have hsplit : setupRest s.nIrq entry =
        (setupInit s.nIrq entry).take j ++ ((setupInit s.nIrq entry).drop j ++ [Instr.gieSet]) := by
      rw [← List.append_assoc, List.take_append_drop, setupRest_eq]
    obtain ⟨t, hrun, hsame, -, -⟩ := runSteps_setup hfresh hsplit hagenda
    rw [List.length_take, Nat.min_eq_left hj] at hrun
    exact ⟨t, hrun, takeable_during_setup rfl (fun _ => List.mem_of_mem_take) hsame⟩

end Machine
end Sys2Proof

/-! Proofs about single operations (spec/40_bank_ops.md to spec/42_sideband_ops.md, spec/60_exceptions.md): each obligation is
an operation's equation, written out. -/
namespace Sys2Proof
namespace Machine

/-! ## Banks and lines -/

/-- Settles O8: an index below `N_IRQ` takes the branch that answers the entry. -/
theorem bankReadsReturnTheEntry : Obligations.BankReadsReturnTheEntry :=
  fun _ _ hi => ⟨exec_ipRead_of_lt hi, exec_ieRead_of_lt hi⟩

/-- Settles O9: an index below `N_IRQ` takes the branch that writes the entry. -/
theorem bankWritesStoreBitZero : Obligations.BankWritesStoreBitZero :=
  fun _ v _ hi => ⟨exec_ipWrite_of_lt v hi, exec_ieWrite_of_lt v hi⟩

/-- Settles O13: all four are `exec_bankOp_of_ge`. -/
theorem bankOperationsAnswerBusError : Obligations.BankOperationsAnswerBusError :=
  fun _ v _ hi => ⟨exec_bankOp_of_ge false false v hi, exec_bankOp_of_ge true false v hi, exec_bankOp_of_ge false true v hi,
    exec_bankOp_of_ge true true v hi⟩

/-- Settles O27: the guard of both events is `lineEvent_guard_iff`. -/
theorem lineEventsWriteTheLevel : Obligations.LineEventsWriteTheLevel :=
  fun _ _ hi h7 => ⟨exec_lineHigh_of_lt hi h7, exec_lineLow_of_lt hi h7⟩

/-! ## Timer -/

/-- Settles O15: both reads answer a field. -/
theorem timerReadsReturnTheRegister : Obligations.TimerReadsReturnTheRegister :=
  fun _ => ⟨rfl, rfl⟩

theorem exec_tick (s : State) : exec .tick s = .next (s.advanceMtime.reply .event) := rfl

/-- Settles O18: the sum of 64-bit words is the sum modulo `2^64`. -/
theorem tickAddsOneModulo : Obligations.TickAddsOneModulo := by
  intro s
  have hsum : s.mtime + 1 = BitVec.ofNat 64 ((s.mtime.toNat + 1) % 2 ^ 64) := by
    apply BitVec.eq_of_toNat_eq
    rw [BitVec.toNat_add, BitVec.toNat_ofNat, Nat.mod_mod]
    rfl
  rw [exec_tick, State.advanceMtime, hsum]
  rfl

/-! ## Sideband -/

/-- Settles O21: each read answers a field. -/
theorem sidebandReadsReturnTheRegister : Obligations.SidebandReadsReturnTheRegister :=
  fun _ => ⟨rfl, rfl, rfl⟩

/-- Settles O23: each writes one field. -/
theorem gieSetAndClearWriteGie : Obligations.GieSetAndClearWriteGie :=
  fun _ => ⟨rfl, rfl⟩

/-- `TVEC_WRITE` of the direct mode (R142). -/
theorem exec_tvecWrite_of_direct {w : Word} (s : State) (hmode : w.extractLsb' 0 2 = 0#2) :
    exec (.tvecWrite w) s = .next ((s.writeTvec w).reply (.sideband 0)) :=
  if_pos (beq_iff_eq.2 hmode)

/-- Settles O22: the mode decides, and a direct entry is its own address. -/
theorem tvecWriteInstallsADirectEntry : Obligations.TvecWriteInstallsADirectEntry :=
  fun _ s => ⟨fun hmode => ⟨exec_tvecWrite_of_direct s hmode, entryAddress_of_direct hmode⟩, exec_tvecWrite_of_reserved s⟩

/-- Settles O24: `takeTrap` looks at the mode of `TVEC` alone. -/
theorem excReportEntersATrap : Obligations.ExcReportEntersATrap := by
  refine fun code s => ⟨fun hmode => ?direct, fun hmode => State.takeTrap_of_reserved (beq_false_of_ne hmode)⟩
  case direct =>
    rw [← exceptionCause_eq_setWidth, ← entryAddress_eq_and]
    exact State.takeTrap_eq_next.2 ⟨beq_iff_eq.2 hmode, rfl⟩

end Machine
end Sys2Proof
